-- ==== Sys2Proof/Word.lean ====
section
/-! DEFINITION. The word types of the block (spec/00_scope.md R7; spec/10_state.md R11, R18). -/

namespace Sys2Proof

/-- A byte of a buffer, a frame or an operand register (R7, `u8`). -/
abbrev Byte := BitVec 8

/-- A 16-bit quantity: the checksum register, `param2`, the Zone Address (R7, `u16`). -/
abbrev Half := BitVec 16

/-- A 7-bit I2C device address (spec/10_state.md R18, `addr`). -/
abbrev Addr := BitVec 7

end Sys2Proof
end

