-- ==== Sys2Proof/Config.lean ====
section
/-! DEFINITION. What an implementation fixes and what the spec leaves open: the enumerations of the
Opcode Profile table and of the zones, and the free values (no body: nothing can be proved of them). -/

namespace Sys2Proof

/-- The three zone kinds of the chip (spec/10_state.md R18, `zone`). -/
inductive Zone where
  | config
  | otp
  | data
deriving DecidableEq, Repr

/-- The five entries of the Opcode Profile table (spec/30_encoding.md R63). -/
inductive Profile where
  | read4
  | read32
  | genKey
  | nonce
  | sign
deriving DecidableEq, Repr

/-- `TYP_US(p)`, OPEN in the spec (spec/00_scope.md R6, D6): a free value, log 12. -/
opaque Config.typUs : Profile → Nat

/-- `MAX_US(p)`, OPEN in the spec (spec/00_scope.md R6, D6): a free value, log 12. -/
opaque Config.maxUs : Profile → Nat

/-- Whether bus transaction number `k` fails, where no scripted answer says it
(spec/41_bus_transport.md R93): a free value, log 2. -/
opaque Config.busFails : (k : Nat) → Bool

/-- Byte `j` of the answer to bus transaction number `k`, where no scripted answer gives it
(spec/41_bus_transport.md R93): a free value, log 2. -/
opaque Config.busByte : (k j : Nat) → Byte

end Sys2Proof
end

