-- ==== Sys2Proof/Machine/Params.lean ====
section
/-! DEFINITION. The parameters of spec/00_scope.md R6 that have a value, and the fixed columns of the Opcode
Profile table (spec/30_encoding.md R63). They stand here, not in Config, so that a correction of one literal
is a change of one body: the spec calls all of them unaudited (spec/93_implementation_defined.md, section 3). -/

namespace Sys2Proof.Machine

/-- `CRC_POLY` (R6). -/
def crcPoly : Half := 0x8005

/-- `CRC_INIT` (R6, D1). Log 13. -/
def crcInit : Half := 0x0000

/-- `CMD_BUF_CAP` (R6, D17): the capacity of `cbuf`. -/
def cmdBufCap : Nat := 40

/-- `RSP_BUF_CAP` (R6): the capacity of `rbuf`. -/
def rspBufCap : Nat := 67

/-- `WAKE_DELAY_US` (R6). -/
def wakeDelayUs : Nat := 1500

/-- `POLL_INTERVAL_US` (R6). -/
def pollIntervalUs : Nat := 1000

/-- `WAKE_SIGNATURE` (R6; spec/30_encoding.md R54). -/
def wakeSignatureBytes : List Byte := [0x04, 0x11, 0x33, 0x43]

/-- `WAKE_PULSE_ADDR` (R6). -/
def wakePulseAddr : Addr := 0x00

/-- `WAKE_PULSE_BYTE` (R6). -/
def wakePulseByte : Byte := 0x00

/-- `WA_SLEEP` (R6; spec/30_encoding.md R53). -/
def waSleep : Byte := 0x01

/-- `WA_COMMAND` (R6, D2). Log 13. -/
def waCommandByte : Byte := 0x03

/-- `READ32_FLAG` (R6): bit 7 of the zone byte. -/
def read32Flag : Byte := 0x80

/-- `OP_READ` (R6). -/
def opRead : Byte := 0x02

/-- `OP_GENKEY` (R6). -/
def opGenKey : Byte := 0x40

/-- `OP_NONCE` (R6). -/
def opNonce : Byte := 0x16

/-- `OP_SIGN` (R6). -/
def opSign : Byte := 0x41

/-- `MODE_GENKEY` (R6). -/
def modeGenKey : Byte := 0x00

/-- `MODE_NONCE` (R6). -/
def modeNonce : Byte := 0x03

/-- `MODE_SIGN` (R6). -/
def modeSign : Byte := 0x80

/-- `NONCE_PARAM2` (R6, D5). Log 13. -/
def nonceParam2 : Half := 0x0000

/-- `ZONE_CODE(z)` (R6, D3). Log 13. -/
def zoneCode : Zone → Byte
  | .config => 0
  | .otp => 1
  | .data => 2

/-- `RESP_LEN(p)`: the payload length a profile expects (R63). -/
def respLen : Profile → Nat
  | .read4 => 4
  | .read32 => 32
  | .genKey => 64
  | .nonce => 1
  | .sign => 64

/-- The opcode byte of a profile (R63). No rule compares it with a frame (D35). -/
def profileOpcode : Profile → Byte
  | .read4 => opRead
  | .read32 => opRead
  | .genKey => opGenKey
  | .nonce => opNonce
  | .sign => opSign

/-- The number of bytes an exchange reads: `RESP_LEN(p) + 3` (R63; spec/44_request.md R120). -/
def frameLen (p : Profile) : Nat := respLen p + 3

end Sys2Proof.Machine
end

