-- ==== Sys2Proof/Machine/Checksum.lean ====
section
/-! DEFINITION. The Checksum Engine: `crc16`, the placement of a checksum in a frame, and the byte order of a
16-bit quantity (spec/40_checksum.md R80, R81, R82; spec/30_encoding.md R56; spec/20_memory.md R35). -/

namespace Sys2Proof.Machine

/-- The data bits of the bytes `D`: ascending index, bit 0 of each byte first (R80). -/
def dataBits (D : List Byte) : List Bool :=
  D.flatMap fun b => [0, 1, 2, 3, 4, 5, 6, 7].map fun k => b.getLsbD k

/-- The register after the data bits, started from `c` (R80). For each bit the top bit of the register is taken
before the shift; the register is shifted left by one, losing that bit; if the data bit differs from it the
polynomial is XORed in. The test stands outside the recursive call so that the kernel evaluates bit by bit. -/
def crcBits (c : Half) : List Bool → Half
  | [] => c
  | dataBit :: rest =>
    if dataBit != c.getLsbD 15 then crcBits ((c <<< 1) ^^^ crcPoly) rest else crcBits (c <<< 1) rest

/-- The register after the bytes `D`, started from `c` (R80). -/
def crcFrom (c : Half) (D : List Byte) : Half := crcBits c (dataBits D)

/-- `crc16(D)` of R80. -/
def crc16 (D : List Byte) : Half := crcFrom crcInit D

/-- Bits 7:0 of a 16-bit quantity (R56): `crc_lo`, `param2_lo`. -/
def loByte (h : Half) : Byte := h.extractLsb' 0 8

/-- Bits 15:8 of a 16-bit quantity (R56): `crc_hi`, `param2_hi`. -/
def hiByte (h : Half) : Byte := h.extractLsb' 8 8

/-- The 16-bit quantity whose low byte is `lo` and whose high byte is `hi` (R35, R56). -/
def halfOf (lo hi : Byte) : Half := (hi ++ lo : BitVec (8 + 8))

/-- A 16-bit quantity as it travels: low byte first (R35). -/
def halfBytes (h : Half) : List Byte := [loByte h, hiByte h]

/-- `body ++ [crc_lo, crc_hi]`: a covered region with its checksum after it (R50, R52, R81). -/
def withChecksum (body : List Byte) : List Byte := body ++ halfBytes (crc16 body)

/-- `N = F[0] - 2`, the number of covered bytes (R81, R82), where CHECKSUM and `checksum_ok` are defined:
`2 <= F[0] <= len(F)`. Elsewhere there is none: nothing wraps and nothing is clamped (R84, R85). -/
def coveredLen : List Byte → Option Nat
  | [] => none
  | count :: rest =>
    if 2 ≤ count.toNat ∧ count.toNat ≤ rest.length + 1 then some (count.toNat - 2) else none

/-- Whether CHECKSUM and `checksum_ok` are defined (R84). -/
def checksumDefined (F : List Byte) : Bool := (coveredLen F).isSome

/-- The two bytes after the `N` covered ones are overwritten with the checksum; the bytes after them are not
touched (R81). -/
def fillChecksum (N : Nat) (F : List Byte) : List Byte := withChecksum (F.take N) ++ F.drop (N + 2)

/-- What CHECKSUM leaves in a caller-owned buffer (R81); `none` where it is not defined (R84). -/
def placeChecksum (F : List Byte) : Option (List Byte) := (coveredLen F).map fun N => fillChecksum N F

/-- `checksum_ok(G)` (R82); `none` where it is not defined (R84). -/
def checksumOk (G : List Byte) : Option Bool :=
  (coveredLen G).map fun N => (G.drop N).take 2 == halfBytes (crc16 (G.take N))

end Sys2Proof.Machine
end

