-- ==== Sys2Proof/Syntax.lean ====
section
/-! DEFINITION. The instructions: one constructor per row of spec/opcode_table.json, in its order, and the
host's command record (spec/30_encoding.md R64, R65, R71). -/

namespace Sys2Proof

/-- One row of spec/opcode_table.json each. The operands are the fields the row's encoding or its command
record leaves free. A checksum the block computes is no operand of a Command Frame (R50). -/
inductive Instr where
  /-- READ4 (R59): the 4-byte Read frame for a zone and a Zone Address. -/
  | read4 (zone : Zone) (za : Half)
  /-- READ32 (R59): the 32-byte Read frame. -/
  | read32 (zone : Zone) (za : Half)
  /-- GENKEY (R60): the GenKey frame, mode 0. -/
  | genKey (slot : Byte)
  /-- NONCE (R61): the Nonce frame with its 32 data bytes. -/
  | nonce (data : Vector Byte 32)
  /-- SIGN (R62): the Sign frame, mode 0x80. -/
  | sign (slot : Byte)
  /-- WAKE_PULSE (R53, R111): the byte 0x00 written to I2C address 0x00. -/
  | wakePulse
  /-- SLEEP_TOKEN (R53, R113): the byte 0x01 written to the device address. -/
  | sleepToken
  /-- WA_COMMAND (R51): the word-address byte 0x03 that begins the write of a Command Frame. -/
  | waCommand
  /-- WAKE_SIGNATURE (R54): the four bytes 04 11 33 43 read after the settle delay. -/
  | wakeSignature
  /-- RESP_READ4 (R121, R122): the response of a Read-4 exchange, its checksum as received. -/
  | respRead4 (payload : List Byte) (crc : Half)
  /-- RESP_READ32: the response of a Read-32 exchange. -/
  | respRead32 (payload : List Byte) (crc : Half)
  /-- RESP_GENKEY: the response of a GenKey exchange. -/
  | respGenKey (payload : List Byte) (crc : Half)
  /-- RESP_SIGN: the response of a Sign exchange. -/
  | respSign (payload : List Byte) (crc : Half)
  /-- RESP_NONCE: the response of a Nonce exchange, its status byte and its checksum as received. -/
  | respNonce (status : Byte) (crc : Half)
  /-- CHECKSUM (R81). -/
  | checksum (F : List Byte)
  /-- POLL_READ (R100). -/
  | pollRead (addr : Addr) (n : Byte) (typ max : Nat)
  /-- WAKEUP (R111). -/
  | wakeup (addr : Addr)
  /-- SLEEP (R113). -/
  | sleep (addr : Addr)
  /-- REQUEST (R120). -/
  | request (addr : Addr) (prof : Profile) (F : List Byte)
  /-- READ_ZONE (R131). -/
  | readZone (addr : Addr) (zone : Zone) (slot block offset rlen : Byte)
  /-- READ_SERIAL (R132). -/
  | readSerial (addr : Addr)
  /-- DERIVE_PUBLIC_KEY (R133). -/
  | derivePublicKey (addr : Addr) (slot : Byte)
  /-- SIGN_CMD, the host command SIGN (R134). -/
  | signCmd (addr : Addr) (slot : Byte) (data : Vector Byte 32)
  /-- RESERVED_9 (R66). -/
  | reserved9
  /-- RESERVED_10 (R66). -/
  | reserved10
  /-- RESERVED_11 (R66). -/
  | reserved11
  /-- RESERVED_12 (R66). -/
  | reserved12
  /-- RESERVED_13 (R66). -/
  | reserved13
  /-- RESERVED_14 (R66). -/
  | reserved14
  /-- RESERVED_15 (R66). -/
  | reserved15
deriving DecidableEq, Repr

/-- What the host presents (spec/10_state.md R20): the 4-bit select code and every operand of R18, with the
byte sequence `F` of R65. A command reads the operands it takes and ignores the others (R65). -/
structure CommandRecord where
  cmd : BitVec 4
  addr : Addr
  zone : Zone
  slot : Byte
  block : Byte
  offset : Byte
  rlen : Byte
  data : Vector Byte 32
  prof : Profile
  typ : Nat
  max : Nat
  n : Byte
  F : List Byte
deriving DecidableEq, Repr

/-- The four formats of spec/opcode_table.json (R71), each the bits that stand at one port of the block:
a Command Frame, a one-byte write, four bytes read in a wake verification, a Response Frame read under a
profile, and a command record. -/
inductive Packet where
  | frame (bytes : List Byte)
  | token (b : Byte)
  | signature (bytes : List Byte)
  | response (p : Profile) (bytes : List Byte)
  | command (r : CommandRecord)
deriving DecidableEq, Repr

end Sys2Proof
end

