-- ==== Sys2Proof/Machine/Operands.lean ====
section
/-! DEFINITION. Operand assembly: the Zone Address, the zone byte, the bytes of the five Command Frames
(spec/30_encoding.md R50, R55 to R62). -/

namespace Sys2Proof.Machine

/-- The Zone Address (R57): the sum formed in natural numbers and cut to 16 bits. -/
def zoneAddress (zone : Zone) (slot block offset : Byte) : Half :=
  match zone with
  | .config => BitVec.ofNat 16 ((block.toNat <<< 3) + (offset &&& 7).toNat)
  | .otp => BitVec.ofNat 16 ((block.toNat <<< 3) + (offset &&& 7).toNat)
  | .data => BitVec.ofNat 16 ((block.toNat <<< 8) + (slot.toNat <<< 3) + (offset &&& 7).toNat)

/-- The zone byte (R58): the zone code, and bit 7 for the 32-byte Read. -/
def zoneByte (zone : Zone) (wide : Bool) : Byte :=
  if wide then zoneCode zone + read32Flag else zoneCode zone

/-- The count byte (R55): `1 + 4 + len(payload) + 2`. -/
def frameCount (payload : List Byte) : Byte := BitVec.ofNat 8 (1 + 4 + payload.length + 2)

/-- The bytes `F[0 .. L-2)` of a Command Frame (R50): count, opcode, param1, param2 low byte first, payload. -/
def frameBody (opcode param1 : Byte) (param2 : Half) (payload : List Byte) : List Byte :=
  frameCount payload :: opcode :: param1 :: loByte param2 :: hiByte param2 :: payload

/-- A whole Command Frame (R50): its body and its checksum. -/
def commandFrame (opcode param1 : Byte) (param2 : Half) (payload : List Byte) : List Byte :=
  withChecksum (frameBody opcode param1 param2 payload)

/-- The READ frame (R59). -/
def readFrame (wide : Bool) (zone : Zone) (za : Half) : List Byte :=
  commandFrame opRead (zoneByte zone wide) za []

/-- The GENKEY frame (R60). -/
def genKeyFrame (slot : Byte) : List Byte :=
  commandFrame opGenKey modeGenKey (slot.zeroExtend 16) []

/-- The NONCE frame (R61). -/
def nonceFrame (data : Vector Byte 32) : List Byte :=
  commandFrame opNonce modeNonce nonceParam2 data.toList

/-- The SIGN frame (R62). -/
def signFrame (slot : Byte) : List Byte :=
  commandFrame opSign modeSign (slot.zeroExtend 16) []

/-- A Response Frame (R52): count byte, payload, checksum as it stands. -/
def responseFrame (payload : List Byte) (crc : Half) : List Byte :=
  (BitVec.ofNat 8 (payload.length + 3) :: payload) ++ halfBytes crc

/-- What REQUEST accepts from the host: a count byte from 7 to 39 (R66), and either the frame with its last two bytes,
`len(F) >= F[0]` (R65, R66), or the frame without them, `len(F) = F[0] - 2` (R120, D35). One byte short of `F[0]` is
neither. Log 6. -/
def requestFits : List Byte → Bool
  | [] => false
  | count :: rest =>
    decide (7 ≤ count.toNat) && decide (count.toNat ≤ 39) &&
      (decide (count.toNat ≤ rest.length + 1) || decide (count.toNat = rest.length + 3))

/-- The bytes `F[0 .. F[0]-2)` the host gives REQUEST (R120). A frame that `requestFits` accepts has them all, and
its count byte is at least 7. -/
def requestBody (F : List Byte) : List Byte := F.take ((F.headD 0).toNat - 2)

/-- The lengths POLL_READ accepts (R66, R91): 1 to 67. -/
def pollFits (n : Byte) : Bool := decide (1 ≤ n.toNat) && decide (n.toNat ≤ rspBufCap)

/-- The lengths READ_ZONE accepts (R66, R131): 4 and 32. -/
def rlenFits (rlen : Byte) : Bool := rlen == 4 || rlen == 32

/-- The serial number in the 32 bytes of config block 0 (spec/45_operations.md R132): bytes [0..4) and
[8..13). -/
def serialOf (B : List Byte) : List Byte := B.take 4 ++ (B.drop 8).take 5

/-- A sequence of 32 bytes as the register `data` holds it (R18, R61); a byte beyond the list is 0. -/
def vec32 (l : List Byte) : Vector Byte 32 :=
  ⟨⟨(List.range 32).map (fun k => l.getD k 0)⟩, by simp⟩

end Sys2Proof.Machine
end

