-- ==== Sys2Proof/Machine/State.lean ====
section
/-! DEFINITION. The state of the block (spec/10_state.md R10 to R22), its faults and refusals, and the state
after reset (R21). Plain data throughout. -/

namespace Sys2Proof.Machine

/-- The 19 states of the sequencer (spec/10_state.md R14). -/
inductive Seq where
  | idle
  | aCheck
  | cRun
  | wPulse
  | wSettle
  | wVerify
  | wResleep
  | bBuild
  | qCrc
  | qWrite
  | pWait
  | pRead
  | pBackoff
  | vLen
  | vCrc
  | xPayload
  | xFail
  | sSleep
  | done
deriving DecidableEq, Repr

/-- The running command (R15, `op`): the nine of spec/30_encoding.md R64. -/
inductive Op where
  | checksum
  | pollRead
  | wakeup
  | sleep
  | request
  | readZone
  | readSerial
  | derivePublicKey
  | sign
deriving DecidableEq, Repr

/-- The six error kinds (spec/60_exceptions.md R150). -/
inductive ErrKind where
  | io
  | timeout
  | protocol
  | integrity
  | deviceUnavailable
  | invalidArgument
deriving DecidableEq, Repr

/-- The flag `link` (spec/10_state.md R17; spec/43_wake_sleep.md R110). -/
inductive Link where
  | dormant
  | active
deriving DecidableEq, Repr

/-- The result register (R17): `Ok` with the output bytes, or the kind alone (R151). -/
inductive Result where
  | ok (out : List Byte)
  | err (kind : ErrKind)
deriving DecidableEq, Repr

/-- What a BusWrite returns (spec/41_bus_transport.md R90). -/
inductive WriteRes where
  | ok
  | fail
deriving DecidableEq, Repr

/-- What a BusRead returns (R91). -/
inductive ReadRes where
  | ok (bytes : List Byte)
  | fail
deriving DecidableEq, Repr

/-- A bus event (spec/10_state.md R22; spec/00_scope.md R7): `W(a, bytes, res)`, `R(a, n, res)`, `D(us)`. -/
inductive Event where
  | write (a : Addr) (bytes : List Byte) (res : WriteRes)
  | read (a : Addr) (n : Nat) (res : ReadRes)
  | delay (us : Nat)
deriving DecidableEq, Repr

/-- One scripted answer of the oracle (spec/41_bus_transport.md R93): a failure, or success with the bytes a
read returns. Log 2. -/
inductive Answer where
  | fail
  | ok (bytes : List Byte)
deriving DecidableEq, Repr

/-- The bus port as the block sees it: the environment's next answers, the number of transactions performed,
and the trace (R22, R93). The first two are the model's own (log 2). -/
structure Bus where
  answers : List Answer
  ansIdx : Nat
  trace : List Event
deriving DecidableEq, Repr

/-- The two times of one entry of the Opcode Profile table (spec/30_encoding.md R63). -/
structure ProfileTime where
  typ : Nat
  max : Nat
deriving DecidableEq, Repr

/-- The OPEN columns of the Opcode Profile table (R63; spec/10_state.md R20). Log 12. -/
structure ProfileTimes where
  read4 : ProfileTime
  read32 : ProfileTime
  genKey : ProfileTime
  nonce : ProfileTime
  sign : ProfileTime
deriving DecidableEq, Repr

/-- A buffer: the bytes written so far, in strictly rising order of index (R12, R13). An unlisted index holds no
value (R21; log 5). -/
abbrev Memory := List Host.Cell

/-- The state of the block (spec/10_state.md R10). -/
structure State where
  /-- The checksum register (R11). -/
  crc : Half
  /-- The command buffer (R12). -/
  cbuf : Memory
  /-- The response buffer (R13). -/
  rbuf : Memory
  /-- The sequencer state register (R14). -/
  seq : Seq
  /-- The running command (R15). -/
  op : Op
  /-- The exchange index, `true` for 1 (R15). -/
  exch : Bool
  /-- The wake attempt, `true` for 1 (R15). -/
  wakeTry : Bool
  /-- The serial read attempt, `true` for 1 (R15). -/
  serialTry : Bool
  /-- The latched error, `none` if there is none (R15). -/
  err : Option ErrKind
  /-- The poll accumulator (R16). -/
  elapsed : Nat
  /-- The block's belief about the chip (R17). -/
  link : Link
  /-- Set while a command runs (R17). -/
  busy : Bool
  /-- The result of the last command (R17, R20). -/
  result : Result
  /-- The output buffer (R17). -/
  out : List Byte
  /-- Operand register `addr` (R18). -/
  addr : Addr
  /-- Operand register `zone` (R18). -/
  zone : Zone
  /-- Operand register `slot` (R18). -/
  slot : Byte
  /-- Operand register `block` (R18). -/
  block : Byte
  /-- Operand register `offset` (R18). -/
  offset : Byte
  /-- Operand register `rlen` (R18). -/
  rlen : Byte
  /-- Operand register `data` (R18). -/
  data : Vector Byte 32
  /-- Operand register `prof` (R18). -/
  prof : Profile
  /-- Operand register `typ` (R18). -/
  typ : Nat
  /-- Operand register `max` (R18). -/
  max : Nat
  /-- Operand register `n` (R18). -/
  n : Byte
  /-- The profile selected for the running exchange (R14, `B_BUILD`; log 11). -/
  sel : Profile
  /-- The caller-owned buffer of CHECKSUM (spec/40_checksum.md R81; log 8). -/
  hostBuf : List Byte
  /-- The times of the Opcode Profile table (R20; log 12). -/
  times : ProfileTimes
  /-- The bus port with its oracle and trace (R22; log 2). -/
  bus : Bus
  /-- The command records the host will present, in order (spec/70_reset_and_hazards.md R186; log 3). -/
  hostQueue : List CommandRecord
deriving DecidableEq, Repr

/-- Where the model stops: an access the spec says is none, in states that no run from reset reaches (log 5,
log 16). All are safe: a stop proves nothing about the block. -/
inductive Fault where
  /-- A byte of `cbuf` or `rbuf` that nothing has written is read (spec/10_state.md R21). Raised by the buffer
  reads of Machine/Ops.lean. Safe. -/
  | unwrittenByte
  /-- An index outside `cbuf[0..40)` or `rbuf[0..67)` (R12, R13; spec/70_reset_and_hazards.md R197). Raised by
  the buffer accesses of Machine/Ops.lean. Safe. -/
  | bufferIndex
  /-- A BusRead of 0 or of more than 67 bytes (spec/41_bus_transport.md R91). Raised by `busReadInto`. Safe. -/
  | readLength
  /-- The table of R14 gives the running command no such state. Raised by the steps of Machine/Sequencer.lean
  and by `execWakeSignature` and the response meanings. Safe. -/
  | noTransition
deriving DecidableEq, Repr

/-- Input to which the spec gives no meaning. All are safe: the run ends there. -/
inductive Refusal where
  /-- An instruction without a meaning in this model, by its mnemonic. Raised by the dispatcher only. Safe. -/
  | notModelled (mnemonic : String)
  /-- CHECKSUM with `F[0] < 2` or `F[0] > len(F)` (spec/40_checksum.md R84). Raised by `execChecksum`, by
  the steps that place a checksum and by the one that compares it. Safe. -/
  | checksumCount
  /-- POLL_READ with `n = 0` or `n > 67` (spec/30_encoding.md R66). Raised by `execPollRead`. Safe. -/
  | pollLength
  /-- REQUEST with a count byte outside 7 to 39, or with neither the whole frame nor the frame without its last
  two bytes (R66, D32, D35; log 6). Raised by
  `execRequest`. Safe. -/
  | requestCount
  /-- A select code from 9 to 15 (R66). Raised by the meanings of the reserved rows. Safe. -/
  | reservedSelect (code : Nat)
  /-- A host command while `seq` is not `IDLE`: the host has no such move (R66;
  spec/70_reset_and_hazards.md R186). Raised by `whenIdle`. Safe for the block, and it rules out the host of
  spec/93_implementation_defined.md U6 (log 17). -/
  | hostBusy
deriving DecidableEq, Repr

/-- The machine right after reset (spec/10_state.md R21; spec/70_reset_and_hazards.md R180): `IDLE`, not busy,
`Dormant`, an empty trace. The spec leaves the other registers unspecified: their values here are the model's
(log 4), and the ten times are free values (log 12). -/
def State.reset : State where
  crc := 0
  cbuf := []
  rbuf := []
  seq := .idle
  op := .checksum
  exch := false
  wakeTry := false
  serialTry := false
  err := none
  elapsed := 0
  link := .dormant
  busy := false
  result := .ok []
  out := []
  addr := 0
  zone := .config
  slot := 0
  block := 0
  offset := 0
  rlen := 0
  data := Vector.replicate 32 0
  prof := .read4
  typ := 0
  max := 0
  n := 0
  sel := .read4
  hostBuf := []
  times := {
    read4 := ⟨Config.typUs .read4, Config.maxUs .read4⟩
    read32 := ⟨Config.typUs .read32, Config.maxUs .read32⟩
    genKey := ⟨Config.typUs .genKey, Config.maxUs .genKey⟩
    nonce := ⟨Config.typUs .nonce, Config.maxUs .nonce⟩
    sign := ⟨Config.typUs .sign, Config.maxUs .sign⟩ }
  bus := { answers := [], ansIdx := 0, trace := [] }
  hostQueue := []

end Sys2Proof.Machine
end

