-- ==== Sys2Proof/Machine/Ops.lean ====
section
/-! DEFINITION. The named operations over buffers, bus and registers: byte access, BusWrite, BusRead, Delay,
accepting a command, error entry and the end of a command. -/

namespace Sys2Proof.Machine

/-- The outcome of a step of the block. -/
abbrev Out := Host.Outcome State Fault Refusal

/-! ### Buffers (spec/20_memory.md R30 to R32) -/

/-- The byte at index `a`, if one was written. -/
def Memory.read : Memory → Nat → Option Byte
  | [], _ => none
  | (k, b) :: m, a => if a = k then some b else Memory.read m a

/-- Writes byte `b` at index `a`, keeping the indices in rising order. -/
def Memory.write : Memory → Nat → Byte → Memory
  | [], a, b => [(a, b)]
  | (k, c) :: m, a, b =>
    if a < k then (a, b) :: (k, c) :: m
    else if a = k then (a, b) :: m
    else (k, c) :: Memory.write m a b

/-- Writes the bytes `bs` at `a`, `a + 1`, … -/
def Memory.writeList (m : Memory) (a : Nat) : List Byte → Memory
  | [] => m
  | b :: bs => Memory.writeList (m.write a b) (a + 1) bs

/-- The bytes at `a`, …, `a + k - 1`, if all were written. -/
def Memory.slice (m : Memory) (a : Nat) : Nat → Option (List Byte)
  | 0 => some []
  | k + 1 =>
    match m.read a, Memory.slice m (a + 1) k with
    | some b, some bs => some (b :: bs)
    | _, _ => none

/-- The canonical form of a buffer of capacity `cap`, from index `lo` on: indices strictly rising and below the
capacity. -/
def Memory.wfFrom (cap : Nat) : Nat → Memory → Bool
  | _, [] => true
  | lo, (k, _) :: m => decide (lo ≤ k) && decide (k < cap) && Memory.wfFrom cap (k + 1) m

/-- The canonical form of a buffer of capacity `cap`. -/
def Memory.wf (cap : Nat) (m : Memory) : Bool := Memory.wfFrom cap 0 m

/-- Reads `k` bytes of a buffer of capacity `cap` from index `a` (R21, R30). -/
def bufRead (cap : Nat) (m : Memory) (a k : Nat) : Except Fault (List Byte) :=
  if cap < a + k then .error .bufferIndex
  else match m.slice a k with
    | some bs => .ok bs
    | none => .error .unwrittenByte

/-- Goes on with the bytes read, or stops with the fault. -/
def withBytes (r : Except Fault (List Byte)) (k : List Byte → Out) : Out :=
  match r with
  | .ok bs => k bs
  | .error f => .fault f

/-- `cbuf[a .. a+k)` (R31). -/
def State.cbufRead (s : State) (a k : Nat) : Except Fault (List Byte) := bufRead cmdBufCap s.cbuf a k

/-- `rbuf[a .. a+k)` (R32). -/
def State.rbufRead (s : State) (a k : Nat) : Except Fault (List Byte) := bufRead rspBufCap s.rbuf a k

/-- The transmitted buffer's start, before its checksum is placed: the word-address byte, then the bytes `F` of
a Command Frame (R31; spec/30_encoding.md R51; spec/44_request.md R120). -/
def State.loadFrame (s : State) (F : List Byte) : State :=
  { s with cbuf := s.cbuf.writeList 0 (waCommandByte :: F) }

/-! ### The Bus Transport (spec/41_bus_transport.md) -/

/-- The environment's choice for transaction number `k`: whether it fails (R93). -/
def Bus.fails (b : Bus) : Bool :=
  match b.answers with
  | [] => Config.busFails b.ansIdx
  | .fail :: _ => true
  | .ok _ :: _ => false

/-- The environment's choice of the `n` bytes a successful read returns: the scripted bytes, and a free value
where the script gives none (R91, R93; log 2). -/
def Bus.bytes (b : Bus) (n : Nat) : List Byte :=
  let script := match b.answers with
    | .ok bs :: _ => bs
    | _ => []
  (List.range n).map (fun j => script.getD j (Config.busByte b.ansIdx j))

/-- The port after one transaction with event `e`: its answer is used up and the event recorded (R95). -/
def Bus.after (b : Bus) (e : Event) : Bus :=
  { answers := b.answers.tail, ansIdx := b.ansIdx + 1, trace := b.trace ++ [e] }

/-- `BusWrite(a, bytes)`: its result (R90). -/
def Bus.writeRes (b : Bus) : WriteRes := if b.fails then .fail else .ok

/-- `BusWrite(a, bytes)`: the port after it (R90, R95). -/
def Bus.write (b : Bus) (a : Addr) (bytes : List Byte) : Bus := b.after (.write a bytes b.writeRes)

/-- `BusRead(a, n)`: its result (R91). -/
def Bus.readRes (b : Bus) (n : Nat) : ReadRes := if b.fails then .fail else .ok (b.bytes n)

/-- `BusRead(a, n)`: the port after it (R91, R95). -/
def Bus.read (b : Bus) (a : Addr) (n : Nat) : Bus := b.after (.read a n (b.readRes n))

/-- `Delay(us)`: the port after it (R92, R95). It is no transaction: no answer is used. -/
def Bus.delay (b : Bus) (us : Nat) : Bus := { b with trace := b.trace ++ [.delay us] }

/-- BusWrite in the block: no register changes (R90). -/
def State.busWrite (s : State) (a : Addr) (bytes : List Byte) : State := { s with bus := s.bus.write a bytes }

/-- BusRead in the block: on `Ok` the bytes go to `rbuf[0..n)`, on `Fail` `rbuf` is unchanged (R91). -/
def State.busReadInto (s : State) (a : Addr) (n : Nat) : State :=
  match s.bus.readRes n with
  | .ok bs => { s with bus := s.bus.read a n, rbuf := s.rbuf.writeList 0 bs }
  | .fail => { s with bus := s.bus.read a n }

/-- Delay in the block (R92). -/
def State.delay (s : State) (us : Nat) : State := { s with bus := s.bus.delay us }

/-- The lengths a BusRead may have (R91): 1 to 67. -/
def readLengthFits (n : Nat) : Bool := decide (1 ≤ n) && decide (n ≤ rspBufCap)

/-! ### Registers -/

/-- The two times of profile `p` (spec/30_encoding.md R63). -/
def ProfileTimes.at (t : ProfileTimes) : Profile → ProfileTime
  | .read4 => t.read4
  | .read32 => t.read32
  | .genKey => t.genKey
  | .nonce => t.nonce
  | .sign => t.sign

/-- The values `n`, `typ` and `max` that the steps from `P_WAIT` to `V_CRC` use (spec/10_state.md R14): the
operands of a running POLL_READ, or those of the selected profile. -/
def State.readLen (s : State) : Nat := if s.op = .pollRead then s.n.toNat else frameLen s.sel

/-- See `State.readLen`. -/
def State.typUs (s : State) : Nat := if s.op = .pollRead then s.typ else (s.times.at s.sel).typ

/-- See `State.readLen`. -/
def State.maxUs (s : State) : Nat := if s.op = .pollRead then s.max else (s.times.at s.sel).max

/-- READ_ZONE, READ_SERIAL, DERIVE_PUBLIC_KEY and SIGN are the composite commands (spec/00_scope.md R8). -/
def Op.composite : Op → Bool
  | .checksum => false
  | .pollRead => false
  | .wakeup => false
  | .sleep => false
  | .request => false
  | .readZone => true
  | .readSerial => true
  | .derivePublicKey => true
  | .sign => true

/-- The select code of a command (spec/30_encoding.md R64; spec/10_state.md R15). -/
def Op.code : Op → BitVec 4
  | .checksum => 0
  | .pollRead => 1
  | .wakeup => 2
  | .sleep => 3
  | .request => 4
  | .readZone => 5
  | .readSerial => 6
  | .derivePublicKey => 7
  | .sign => 8

/-- The numeric code of an error kind (spec/60_exceptions.md R150, D14). -/
def ErrKind.code : ErrKind → BitVec 3
  | .io => 1
  | .timeout => 2
  | .protocol => 3
  | .integrity => 4
  | .deviceUnavailable => 5
  | .invalidArgument => 6

/-- The field `code` of the result as the host reads it (spec/10_state.md R20). -/
def Result.code : Result → BitVec 3
  | .ok _ => 0
  | .err k => k.code

/-- The output bytes of the result: none after an error (spec/60_exceptions.md R151). -/
def Result.bytes : Result → List Byte
  | .ok bs => bs
  | .err _ => []

/-- The field `out_len` of the result (R20, R151). -/
def Result.outLen (r : Result) : BitVec 7 := BitVec.ofNat 7 r.bytes.length

/-- The bit of `link` as the host reads it (R20). -/
def Link.bit : Link → BitVec 1
  | .dormant => 0
  | .active => 1

/-! ### Accepting a command, error entry, the end of a command -/

/-- The first state of each command (spec/10_state.md R14, row `IDLE`). -/
def Op.first : Op → Seq
  | .checksum => .cRun
  | .pollRead => .pWait
  | .wakeup => .wPulse
  | .sleep => .sSleep
  | .request => .qCrc
  | .readZone => .aCheck
  | .readSerial => .aCheck
  | .derivePublicKey => .aCheck
  | .sign => .aCheck

/-- The row `IDLE` of R14: `op` is loaded, the context registers cleared, `busy` set. -/
def State.accept (s : State) (op : Op) : State :=
  { s with op := op, exch := false, wakeTry := false, serialTry := false, err := none, busy := true,
           seq := op.first }

/-- A host command is possible at `seq = IDLE` only (R14; spec/70_reset_and_hazards.md R186). -/
def whenIdle (s : State) (r : Out) : Out :=
  match s.seq with
  | .idle => r
  | _ => .refused .hostBusy

/-- ERROR ENTRY (spec/60_exceptions.md R156, R157), with the error already latched: a composite command skips to
the clean-up Sleep, a standalone primitive goes straight to `DONE`. Nothing is saved and nothing is vectored.
CHECKSUM raises no error (R150). -/
def State.errorEntry (s : State) : Out :=
  match s.op with
  | .checksum => .fault .noTransition
  | .pollRead => .next { s with seq := .done }
  | .wakeup => .next { s with seq := .done }
  | .sleep => .next { s with seq := .done }
  | .request => .next { s with seq := .done }
  | .readZone => .next { s with seq := .sSleep }
  | .readSerial => .next { s with seq := .sSleep }
  | .derivePublicKey => .next { s with seq := .sSleep }
  | .sign => .next { s with seq := .sSleep }

/-- Latches the kind and enters the error (R156, R157). -/
def State.raise (s : State) (k : ErrKind) : Out := { s with err := some k }.errorEntry

/-- Latches the kind of a failed exchange and goes to `X_FAIL` (spec/10_state.md R14). -/
def State.failExchange (s : State) (k : ErrKind) : State := { s with err := some k, seq := .xFail }

/-- The end of a standalone primitive that succeeds: its output bytes, then `DONE` (R17). -/
def State.succeed (s : State) (bytes : List Byte) : State := { s with out := bytes, seq := .done }

/-- The row `DONE` of R14: the result is presented, `busy` cleared, and the block is at `IDLE` again
(spec/60_exceptions.md R158). -/
def State.finish (s : State) : State :=
  { s with
    result := match s.err with
      | none => .ok s.out
      | some k => .err k
    busy := false
    seq := .idle }

end Sys2Proof.Machine
end

