-- ==== Sys2Proof/Machine/Flags.lean ====
section
/-! DEFINITION. The tests the block makes on what it reads, and the flag `link`: it has no arithmetic condition
codes (spec/10_state.md R17). -/

namespace Sys2Proof.Machine

/-- The wake comparison: all four bytes, raw (spec/30_encoding.md R54; spec/43_wake_sleep.md R111). -/
def signatureMatches (bytes : List Byte) : Bool := bytes == wakeSignatureBytes

/-- The count test (spec/44_request.md R121): equality with the number of bytes read. -/
def countOk (count : Byte) (n : Nat) : Bool := count.toNat == n

/-- The last two bytes of `n` bytes read, as a 16-bit quantity (R122; spec/20_memory.md R35). -/
def trailer (bytes : List Byte) (n : Nat) : Half := halfOf (bytes.getD (n - 2) 0) (bytes.getD (n - 1) 0)

/-- The Nonce status test (spec/45_operations.md R134). -/
def statusOk (status : Byte) : Bool := status == 0x00

/-- `link` after a matching verification (R110, R111). -/
def State.setActive (s : State) : State := { s with link := .active }

/-- `link` after a write of the Sleep byte, whatever its result (R113, R114). -/
def State.setDormant (s : State) : State := { s with link := .dormant }

end Sys2Proof.Machine
end

