-- ==== Sys2Proof/Machine/Commands.lean ====
section
/-! DEFINITION. The nine host commands and the seven reserved select codes (spec/30_encoding.md R64 to R66): what
the row `IDLE` of spec/10_state.md R14 does with each. The steps the accepted command then runs through are in
Machine/Sequencer.lean. -/

namespace Sys2Proof.Machine

/-- CHECKSUM (spec/40_checksum.md R81): the caller's buffer is taken; a count byte below 2 or beyond the buffer is
refused (R84). -/
def execChecksum (F : List Byte) (s : State) : Out :=
  whenIdle s
    (if checksumDefined F then .next { s.accept .checksum with hostBuf := F }
     else .refused .checksumCount)

/-- POLL_READ (spec/42_poll_read.md R100): 1 to 67 bytes, else refused (R66). -/
def execPollRead (addr : Addr) (n : Byte) (typ max : Nat) (s : State) : Out :=
  whenIdle s
    (if pollFits n then .next { s.accept .pollRead with addr := addr, n := n, typ := typ, max := max }
     else .refused .pollLength)

/-- WAKEUP (spec/43_wake_sleep.md R111). -/
def execWakeup (addr : Addr) (s : State) : Out :=
  whenIdle s (.next { s.accept .wakeup with addr := addr })

/-- SLEEP (spec/43_wake_sleep.md R113). -/
def execSleep (addr : Addr) (s : State) : Out :=
  whenIdle s (.next { s.accept .sleep with addr := addr })

/-- REQUEST (spec/44_request.md R120): `cbuf[0] <- WA_COMMAND`, `cbuf[1 .. L-1) <- F[0 .. L-2)`, the profile
selected; a frame out of range is refused (R66; log 6, log 7). -/
def execRequest (addr : Addr) (prof : Profile) (F : List Byte) (s : State) : Out :=
  whenIdle s
    (if requestFits F then
      .next { (s.accept .request).loadFrame (requestBody F) with addr := addr, prof := prof, sel := prof }
     else .refused .requestCount)

/-- READ_ZONE (spec/45_operations.md R131). The length is checked at `A_CHECK`. -/
def execReadZone (addr : Addr) (zone : Zone) (slot block offset rlen : Byte) (s : State) : Out :=
  whenIdle s (.next { s.accept .readZone with
    addr := addr, zone := zone, slot := slot, block := block, offset := offset, rlen := rlen })

/-- READ_SERIAL (spec/45_operations.md R132). -/
def execReadSerial (addr : Addr) (s : State) : Out :=
  whenIdle s (.next { s.accept .readSerial with addr := addr })

/-- DERIVE_PUBLIC_KEY (spec/45_operations.md R133). -/
def execDerivePublicKey (addr : Addr) (slot : Byte) (s : State) : Out :=
  whenIdle s (.next { s.accept .derivePublicKey with addr := addr, slot := slot })

/-- SIGN_CMD, the host command SIGN (spec/45_operations.md R134). -/
def execSignCmd (addr : Addr) (slot : Byte) (data : Vector Byte 32) (s : State) : Out :=
  whenIdle s (.next { s.accept .sign with addr := addr, slot := slot, data := data })

/-- RESERVED_9 (R66): refused. -/
def execReserved9 (s : State) : Out := whenIdle s (.refused (.reservedSelect 9))

/-- RESERVED_10 (R66): refused. -/
def execReserved10 (s : State) : Out := whenIdle s (.refused (.reservedSelect 10))

/-- RESERVED_11 (R66): refused. -/
def execReserved11 (s : State) : Out := whenIdle s (.refused (.reservedSelect 11))

/-- RESERVED_12 (R66): refused. -/
def execReserved12 (s : State) : Out := whenIdle s (.refused (.reservedSelect 12))

/-- RESERVED_13 (R66): refused. -/
def execReserved13 (s : State) : Out := whenIdle s (.refused (.reservedSelect 13))

/-- RESERVED_14 (R66): refused. -/
def execReserved14 (s : State) : Out := whenIdle s (.refused (.reservedSelect 14))

/-- RESERVED_15 (R66): refused. -/
def execReserved15 (s : State) : Out := whenIdle s (.refused (.reservedSelect 15))

end Sys2Proof.Machine
end

