-- ==== Sys2Proof/Machine/Frames.lean ====
section
/-! DEFINITION. The five Command Frames (READ4, READ32, GENKEY, NONCE, SIGN): what `B_BUILD` does with each
(spec/10_state.md R14; spec/30_encoding.md R59 to R62). -/

namespace Sys2Proof.Machine

/-- A frame goes into `cbuf[1..]` after the word-address byte, its profile is selected, and the checksum step is
next (R14, row `B_BUILD`; log 10). -/
def State.build (s : State) (p : Profile) (F : List Byte) : State :=
  { s.loadFrame F with sel := p, seq := .qCrc }

/-- READ4 (R59). -/
def execRead4 (zone : Zone) (za : Half) (s : State) : Out :=
  .next (s.build .read4 (readFrame false zone za))

/-- READ32 (R59). -/
def execRead32 (zone : Zone) (za : Half) (s : State) : Out :=
  .next (s.build .read32 (readFrame true zone za))

/-- GENKEY (R60). -/
def execGenKey (slot : Byte) (s : State) : Out :=
  .next (s.build .genKey (genKeyFrame slot))

/-- NONCE (R61). -/
def execNonce (data : Vector Byte 32) (s : State) : Out :=
  .next (s.build .nonce (nonceFrame data))

/-- SIGN, the frame (R62). -/
def execSign (slot : Byte) (s : State) : Out :=
  .next (s.build .sign (signFrame slot))

end Sys2Proof.Machine
end

