-- ==== Sys2Proof/Machine/Responses.lean ====
section
/-! DEFINITION. What the block recognises in bytes it has read (WAKE_SIGNATURE and the five Response Frames;
spec/30_encoding.md R54, R67; spec/44_request.md R121, R122). -/

namespace Sys2Proof.Machine

/-- WAKE_SIGNATURE (spec/43_wake_sleep.md R111; R14, row `W_VERIFY`, match): `link` becomes `Active`; WAKEUP ends,
a composite command goes on to its first exchange. -/
def execWakeSignature (s : State) : Out :=
  let t := s.setActive
  match s.op with
  | .wakeup => .next (t.succeed [])
  | .readZone => .next { t with seq := .bBuild }
  | .readSerial => .next { t with seq := .bBuild }
  | .derivePublicKey => .next { t with seq := .bBuild }
  | .sign => .next { t with seq := .bBuild }
  | .checksum => .fault .noTransition
  | .pollRead => .fault .noTransition
  | .sleep => .fault .noTransition
  | .request => .fault .noTransition

/-- The checksum test (R122; R14, row `V_CRC`) on the covered region `body` and the received checksum `crc`. A
standalone REQUEST ends with the payload (R125); a composite command goes on to its payload step. -/
def State.checkResponse (s : State) (body : List Byte) (crc : Half) : Out :=
  let t := { s with crc := crc16 body }
  if crc16 body = crc then
    match s.op with
    | .request => .next (t.succeed body.tail)
    | .readZone => .next { t with seq := .xPayload }
    | .readSerial => .next { t with seq := .xPayload }
    | .derivePublicKey => .next { t with seq := .xPayload }
    | .sign => .next { t with seq := .xPayload }
    | .checksum => .fault .noTransition
    | .pollRead => .fault .noTransition
    | .wakeup => .fault .noTransition
    | .sleep => .fault .noTransition
  else .next (t.failExchange .integrity)

/-- The covered region of a Response Frame of profile `p`: the count byte the count test has shown equal to the
number of bytes read (R121, R123), then the payload. -/
def responseBody (p : Profile) (payload : List Byte) : List Byte := BitVec.ofNat 8 (frameLen p) :: payload

/-- RESP_READ4 (R121, R122). -/
def execRespRead4 (payload : List Byte) (crc : Half) (s : State) : Out :=
  s.checkResponse (responseBody .read4 payload) crc

/-- RESP_READ32 (R121, R122). -/
def execRespRead32 (payload : List Byte) (crc : Half) (s : State) : Out :=
  s.checkResponse (responseBody .read32 payload) crc

/-- RESP_GENKEY (R121, R122). -/
def execRespGenKey (payload : List Byte) (crc : Half) (s : State) : Out :=
  s.checkResponse (responseBody .genKey payload) crc

/-- RESP_SIGN (R121, R122). -/
def execRespSign (payload : List Byte) (crc : Half) (s : State) : Out :=
  s.checkResponse (responseBody .sign payload) crc

/-- RESP_NONCE (R121, R122). The status test is the payload step's (spec/45_operations.md R134, D12). -/
def execRespNonce (status : Byte) (crc : Half) (s : State) : Out :=
  s.checkResponse (responseBody .nonce [status]) crc

end Sys2Proof.Machine
end

