-- ==== Sys2Proof/Machine/Tokens.lean ====
section
/-! DEFINITION. The three bus tokens (WAKE_PULSE, SLEEP_TOKEN, WA_COMMAND; spec/30_encoding.md R51, R53). -/

namespace Sys2Proof.Machine

/-- WAKE_PULSE (spec/43_wake_sleep.md R111; R14, row `W_PULSE`): the result of the write is ignored (D9). -/
def execWakePulse (s : State) : Out :=
  .next { s.busWrite wakePulseAddr [wakePulseByte] with seq := .wSettle }

/-- SLEEP_TOKEN (R113, R114; R14, rows `W_RESLEEP` and `S_SLEEP`): `link` becomes `Dormant` whatever the result.
Between two wake attempts the second attempt follows (D11). A standalone SLEEP reports a failed write as `IO`
(D36) and has no output; a composite command discards the result (spec/60_exceptions.md R154). -/
def execSleepToken (s : State) : Out :=
  let t := (s.busWrite s.addr [waSleep]).setDormant
  match s.seq, s.op, s.bus.writeRes with
  | .wResleep, _, _ => .next { t with wakeTry := true, seq := .wPulse }
  | _, .sleep, .fail => t.raise .io
  | _, .sleep, .ok => .next (t.succeed [])
  | _, _, _ => .next { t with seq := .done }

/-- WA_COMMAND (R51; spec/44_request.md R120; R14, row `Q_WRITE`): the transmitted buffer, the word-address byte
and the frame its count byte measures, is written to the device. -/
def execWaCommand (s : State) : Out :=
  withBytes (s.cbufRead 1 1) fun count =>
    withBytes (s.cbufRead 0 ((count.headD 0).toNat + 1)) fun bytes =>
      let t := s.busWrite s.addr bytes
      match s.bus.writeRes with
      | .ok => .next { t with seq := .pWait }
      | .fail => .next (t.failExchange .io)

end Sys2Proof.Machine
end

