-- ==== Sys2Proof/Machine/Dispatch.lean ====
section
/-! DEFINITION. The dispatcher: one arm per row of spec/opcode_table.json. -/

namespace Sys2Proof.Machine

def exec (i : Instr) (s : State) : Host.Outcome State Fault Refusal :=
  match i with
  | .read4 zone za => Sys2Proof.Machine.execRead4 zone za s
  | .read32 zone za => Sys2Proof.Machine.execRead32 zone za s
  | .genKey slot => Sys2Proof.Machine.execGenKey slot s
  | .nonce data => Sys2Proof.Machine.execNonce data s
  | .sign slot => Sys2Proof.Machine.execSign slot s
  | .wakePulse => Sys2Proof.Machine.execWakePulse s
  | .sleepToken => Sys2Proof.Machine.execSleepToken s
  | .waCommand => Sys2Proof.Machine.execWaCommand s
  | .wakeSignature => Sys2Proof.Machine.execWakeSignature s
  | .respRead4 payload crc => Sys2Proof.Machine.execRespRead4 payload crc s
  | .respRead32 payload crc => Sys2Proof.Machine.execRespRead32 payload crc s
  | .respGenKey payload crc => Sys2Proof.Machine.execRespGenKey payload crc s
  | .respSign payload crc => Sys2Proof.Machine.execRespSign payload crc s
  | .respNonce status crc => Sys2Proof.Machine.execRespNonce status crc s
  | .checksum F => Sys2Proof.Machine.execChecksum F s
  | .pollRead addr n typ max => Sys2Proof.Machine.execPollRead addr n typ max s
  | .wakeup addr => Sys2Proof.Machine.execWakeup addr s
  | .sleep addr => Sys2Proof.Machine.execSleep addr s
  | .request addr prof F => Sys2Proof.Machine.execRequest addr prof F s
  | .readZone addr zone slot block offset rlen => Sys2Proof.Machine.execReadZone addr zone slot block offset rlen s
  | .readSerial addr => Sys2Proof.Machine.execReadSerial addr s
  | .derivePublicKey addr slot => Sys2Proof.Machine.execDerivePublicKey addr slot s
  | .signCmd addr slot data => Sys2Proof.Machine.execSignCmd addr slot data s
  | .reserved9 => Sys2Proof.Machine.execReserved9 s
  | .reserved10 => Sys2Proof.Machine.execReserved10 s
  | .reserved11 => Sys2Proof.Machine.execReserved11 s
  | .reserved12 => Sys2Proof.Machine.execReserved12 s
  | .reserved13 => Sys2Proof.Machine.execReserved13 s
  | .reserved14 => Sys2Proof.Machine.execReserved14 s
  | .reserved15 => Sys2Proof.Machine.execReserved15 s

end Sys2Proof.Machine
end

