-- ==== Sys2Proof/WellFormed.lean ====
section
/-! DEFINITION. When an instruction's operands lie in the ranges its encoding or its rule allows
(spec/30_encoding.md R57, R63, R66; spec/40_checksum.md R84). -/

namespace Sys2Proof

/-- A Zone Address the formula of R57 can give: any for the data zone, at most 2047 for the other two. -/
def zoneAddressFits (zone : Zone) (za : Half) : Bool :=
  match zone with
  | .data => true
  | .config => decide (za.toNat ≤ 2047)
  | .otp => decide (za.toNat ≤ 2047)

/-- The operands lie in the ranges the spec allows. A reserved select code has no operand. -/
def WellFormed : Instr → Bool
  | .read4 zone za => zoneAddressFits zone za
  | .read32 zone za => zoneAddressFits zone za
  | .genKey _ => true
  | .nonce _ => true
  | .sign _ => true
  | .wakePulse => true
  | .sleepToken => true
  | .waCommand => true
  | .wakeSignature => true
  | .respRead4 payload _ => payload.length == Machine.respLen .read4
  | .respRead32 payload _ => payload.length == Machine.respLen .read32
  | .respGenKey payload _ => payload.length == Machine.respLen .genKey
  | .respSign payload _ => payload.length == Machine.respLen .sign
  | .respNonce _ _ => true
  | .checksum F => Machine.checksumDefined F
  | .pollRead _ n _ _ => Machine.pollFits n
  | .wakeup _ => true
  | .sleep _ => true
  | .request _ _ F => Machine.requestFits F
  | .readZone _ _ _ _ _ _ => true
  | .readSerial _ => true
  | .derivePublicKey _ _ => true
  | .signCmd _ _ _ => true
  | .reserved9 => true
  | .reserved10 => true
  | .reserved11 => true
  | .reserved12 => true
  | .reserved13 => true
  | .reserved14 => true
  | .reserved15 => true

end Sys2Proof
end

