-- ==== Sys2Proof/Decode.lean ====
section
/-! DEFINITION. The decoder of each port (spec/30_encoding.md R51 to R67, R71), total on any bytes, and the
encoder. -/

namespace Sys2Proof

/-- Why the bits at a port are no instruction. -/
inductive Reject where
  /-- A frame shorter than its fixed part, or not as long as its row says (R50, R52, R54). -/
  | badLength
  /-- The count byte is not the frame's length (R50, R52, R121). -/
  | badCount
  /-- An opcode other than the four of R63. -/
  | badOpcode
  /-- A mode byte, or a param2, that R60 to R62 do not give the opcode. -/
  | badParam
  /-- A zone byte whose bits 6:2 are not zero or whose zone code is 3 (R58). -/
  | reservedZone
  /-- The last two bytes are neither the checksum nor still to be filled (R50; log 15). -/
  | badChecksum
  /-- A one-byte write that is none of the three of R51 and R53. -/
  | badToken
  /-- Four bytes other than the wake signature (R54). -/
  | badSignature
deriving DecidableEq, Repr

namespace Machine

/-- The zone a zone code names (R58); code 3 names none. -/
def zoneOfCode (b : Byte) : Option Zone :=
  if b = zoneCode .config then some .config
  else if b = zoneCode .otp then some .otp
  else if b = zoneCode .data then some .data
  else none

/-- The last two bytes of a Command Frame may be its checksum, or two zero bytes: a frame whose last two bytes
are not yet filled (R65, R120). Log 15. -/
def checksumAcceptable (body trailer : List Byte) : Bool :=
  trailer == [0, 0] || trailer == halfBytes (crc16 body)

/-- A Command Frame's fields, once its count and its checksum are known good (R58 to R62). -/
def decodeFields (opcode param1 lo hi : Byte) (payload : List Byte) : Except Reject Instr :=
  if opcode = opRead then
    if payload.length ≠ 0 then .error .badLength
    else match zoneOfCode param1, zoneOfCode (param1 - read32Flag) with
      | some zone, _ => .ok (.read4 zone (halfOf lo hi))
      | none, some zone => .ok (.read32 zone (halfOf lo hi))
      | none, none => .error .reservedZone
  else if opcode = opGenKey then
    if payload.length ≠ 0 then .error .badLength
    else if param1 = modeGenKey ∧ hi = 0 then .ok (.genKey lo) else .error .badParam
  else if opcode = opNonce then
    if payload.length ≠ 32 then .error .badLength
    else if param1 = modeNonce ∧ halfOf lo hi = nonceParam2 then .ok (.nonce (vec32 payload))
    else .error .badParam
  else if opcode = opSign then
    if payload.length ≠ 0 then .error .badLength
    else if param1 = modeSign ∧ hi = 0 then .ok (.sign lo) else .error .badParam
  else .error .badOpcode

/-- A Command Frame (R50, R59 to R62). -/
def decodeFrame (bytes : List Byte) : Except Reject Instr :=
  match bytes with
  | count :: opcode :: param1 :: lo :: hi :: rest =>
    if rest.length < 2 then .error .badLength
    else if bytes.length ≠ count.toNat then .error .badCount
    else if checksumAcceptable (bytes.take (bytes.length - 2)) (bytes.drop (bytes.length - 2)) then
      decodeFields opcode param1 lo hi (rest.take (rest.length - 2))
    else .error .badChecksum
  | _ => .error .badLength

/-- A one-byte write (R51, R53). -/
def decodeToken (b : Byte) : Except Reject Instr :=
  if b = wakePulseByte then .ok .wakePulse
  else if b = waSleep then .ok .sleepToken
  else if b = waCommandByte then .ok .waCommand
  else .error .badToken

/-- The bytes of a wake verification: all four compared (R54). -/
def decodeSignature (bytes : List Byte) : Except Reject Instr :=
  if bytes = wakeSignatureBytes then .ok .wakeSignature else .error .badSignature

/-- The row of a profile's response, from its payload and checksum. -/
def responseInstr (p : Profile) (payload : List Byte) (crc : Half) : Instr :=
  match p with
  | .read4 => .respRead4 payload crc
  | .read32 => .respRead32 payload crc
  | .genKey => .respGenKey payload crc
  | .nonce => .respNonce (payload.headD 0) crc
  | .sign => .respSign payload crc

/-- A Response Frame read under profile `p` (R52, R67): the number of bytes is the profile's and the count byte
says so (R121). The checksum is a field, tested by the instruction (R122). -/
def decodeResponse (p : Profile) (bytes : List Byte) : Except Reject Instr :=
  match bytes with
  | [] => .error .badLength
  | count :: rest =>
    if rest.length + 1 ≠ frameLen p then .error .badLength
    else if count.toNat ≠ frameLen p then .error .badCount
    else .ok (responseInstr p (rest.take (respLen p))
      (halfOf (rest.getD (respLen p) 0) (rest.getD (respLen p + 1) 0)))

/-- A command record (R64, R65): the select code picks the command, which takes its own operands. -/
def decodeCommand (r : CommandRecord) : Instr :=
  match r.cmd.toNat with
  | 0 => .checksum r.F
  | 1 => .pollRead r.addr r.n r.typ r.max
  | 2 => .wakeup r.addr
  | 3 => .sleep r.addr
  | 4 => .request r.addr r.prof r.F
  | 5 => .readZone r.addr r.zone r.slot r.block r.offset r.rlen
  | 6 => .readSerial r.addr
  | 7 => .derivePublicKey r.addr r.slot
  | 8 => .signCmd r.addr r.slot r.data
  | 9 => .reserved9
  | 10 => .reserved10
  | 11 => .reserved11
  | 12 => .reserved12
  | 13 => .reserved13
  | 14 => .reserved14
  | _ => .reserved15

/-- A command record whose operands are all zero or empty. -/
def blankRecord (cmd : BitVec 4) : CommandRecord :=
  { cmd := cmd, addr := 0, zone := .config, slot := 0, block := 0, offset := 0, rlen := 0,
    data := vec32 [], prof := .read4, typ := 0, max := 0, n := 0, F := [] }

end Machine

/-- The decoder: what the bits at a port stand for. -/
def decode : Packet → Except Reject Instr
  | .frame bytes => Machine.decodeFrame bytes
  | .token b => Machine.decodeToken b
  | .signature bytes => Machine.decodeSignature bytes
  | .response p bytes => Machine.decodeResponse p bytes
  | .command r => .ok (Machine.decodeCommand r)

/-- The encoder: the bits of an instruction, at the port its row's format names. -/
def encode : Instr → Packet
  | .read4 zone za => .frame (Machine.readFrame false zone za)
  | .read32 zone za => .frame (Machine.readFrame true zone za)
  | .genKey slot => .frame (Machine.genKeyFrame slot)
  | .nonce data => .frame (Machine.nonceFrame data)
  | .sign slot => .frame (Machine.signFrame slot)
  | .wakePulse => .token Machine.wakePulseByte
  | .sleepToken => .token Machine.waSleep
  | .waCommand => .token Machine.waCommandByte
  | .wakeSignature => .signature Machine.wakeSignatureBytes
  | .respRead4 payload crc => .response .read4 (Machine.responseFrame payload crc)
  | .respRead32 payload crc => .response .read32 (Machine.responseFrame payload crc)
  | .respGenKey payload crc => .response .genKey (Machine.responseFrame payload crc)
  | .respSign payload crc => .response .sign (Machine.responseFrame payload crc)
  | .respNonce status crc => .response .nonce (Machine.responseFrame [status] crc)
  | .checksum F => .command { Machine.blankRecord 0 with F := F }
  | .pollRead addr n typ max => .command { Machine.blankRecord 1 with addr := addr, n := n, typ := typ, max := max }
  | .wakeup addr => .command { Machine.blankRecord 2 with addr := addr }
  | .sleep addr => .command { Machine.blankRecord 3 with addr := addr }
  | .request addr prof F => .command { Machine.blankRecord 4 with addr := addr, prof := prof, F := F }
  | .readZone addr zone slot block offset rlen => .command { Machine.blankRecord 5 with
      addr := addr, zone := zone, slot := slot, block := block, offset := offset, rlen := rlen }
  | .readSerial addr => .command { Machine.blankRecord 6 with addr := addr }
  | .derivePublicKey addr slot => .command { Machine.blankRecord 7 with addr := addr, slot := slot }
  | .signCmd addr slot data => .command { Machine.blankRecord 8 with addr := addr, slot := slot, data := data }
  | .reserved9 => .command (Machine.blankRecord 9)
  | .reserved10 => .command (Machine.blankRecord 10)
  | .reserved11 => .command (Machine.blankRecord 11)
  | .reserved12 => .command (Machine.blankRecord 12)
  | .reserved13 => .command (Machine.blankRecord 13)
  | .reserved14 => .command (Machine.blankRecord 14)
  | .reserved15 => .command (Machine.blankRecord 15)

/-- The `k` bytes of a number in transmission order: the first byte is the most significant (R71). -/
def bytesOfNumber (k w : Nat) : List Byte :=
  (List.range k).map (fun j => BitVec.ofNat 8 (w >>> (8 * (k - 1 - j))))

/-- An 8-bit table word. The formats HOSTCMD, BUSTOKEN and RESPFRAME share the numbers 0 to 15 and nothing in
the number tells them apart; numbers below 16 are read as select codes, 0x23 and 0x43 as the count byte of a
response whose other bytes are zero. Log 14. -/
def packetOfByteWord (w : Nat) : Option Packet :=
  if w < 16 then some (.command (Machine.blankRecord (BitVec.ofNat 4 w)))
  else if w = 0x23 then some (.response .read32 (0x23 :: List.replicate 34 0))
  else if w = 0x43 then some (.response .genKey (0x43 :: List.replicate 66 0))
  else none

/-- The port and the bits that a word of spec/opcode_table.json stands for (R71): 4 bits a select code, 8 bits
see `packetOfByteWord`, 32 bits the four bytes of a wake verification, else a Command Frame, padded with zero
bytes to the length its count byte gives. -/
def packetOfTableWord (nbits w : Nat) : Option Packet :=
  if nbits ≤ 4 then some (.command (Machine.blankRecord (BitVec.ofNat 4 w)))
  else if nbits = 8 then packetOfByteWord w
  else if nbits = 32 then some (.signature (bytesOfNumber 4 w))
  else
    match bytesOfNumber (nbits / 8) w with
    | [] => none
    | count :: rest => some (.frame (count :: rest ++ List.replicate (count.toNat - (nbits / 8)) 0))

/-- The instruction the decoder reads from a word numbered as spec/opcode_table.json numbers it. -/
def decodeTableWord (nbits w : Nat) : Option Instr :=
  match packetOfTableWord nbits w with
  | none => none
  | some p =>
    match decode p with
    | .ok i => some i
    | .error _ => none

end Sys2Proof
end

