-- ==== Sys2Proof/Machine/Sequencer.lean ====
section
/-! DEFINITION. The steps of the sequencer that no packet decides (spec/10_state.md R14): one definition per row
of the table, and `seqStep`, the table. -/

namespace Sys2Proof.Machine

/-- Row `A_CHECK`: the argument check (spec/30_encoding.md R66). A READ_ZONE length other than 4 or 32 ends the
command with no bus event and no Sleep (R131). -/
def stepACheck (s : State) : Out :=
  match s.op with
  | .readZone =>
    if rlenFits s.rlen then .next { s with seq := .wPulse }
    else .next { s with err := some .invalidArgument, seq := .done }
  | .readSerial => .next { s with seq := .wPulse }
  | .derivePublicKey => .next { s with seq := .wPulse }
  | .sign => .next { s with seq := .wPulse }
  | .checksum => .fault .noTransition
  | .pollRead => .fault .noTransition
  | .wakeup => .fault .noTransition
  | .sleep => .fault .noTransition
  | .request => .fault .noTransition

/-- Row `C_RUN`: CHECKSUM on the caller's buffer (spec/40_checksum.md R81); the result is the two bytes. -/
def stepCRun (s : State) : Out :=
  match coveredLen s.hostBuf with
  | some N =>
    let c := crc16 (s.hostBuf.take N)
    .next { s with crc := c, hostBuf := fillChecksum N s.hostBuf, out := halfBytes c, seq := .done }
  | none => .refused .checksumCount

/-- Row `W_SETTLE`: `Delay(1500)`. -/
def stepWSettle (s : State) : Out := .next { s.delay wakeDelayUs with seq := .wVerify }

/-- Row `W_VERIFY`, no match or `Fail` (spec/43_wake_sleep.md R111): once more, or `DEVICE_UNAVAILABLE`. The state
is the one after the read. -/
def wakeMismatch (t : State) : Out :=
  if t.wakeTry then t.raise .deviceUnavailable else .next { t with seq := .wResleep }

/-- Row `Q_CRC`: the checksum of the frame in `cbuf[1..]` is placed (spec/40_checksum.md R81 on
`cbuf[1..40)`). -/
def stepQCrc (s : State) : Out :=
  withBytes (s.cbufRead 1 1) fun count =>
    let L := (count.headD 0).toNat
    if 2 ≤ L ∧ L + 1 ≤ cmdBufCap then
      withBytes (s.cbufRead 1 (L - 2)) fun body =>
        let c := crc16 body
        .next { s with crc := c, cbuf := s.cbuf.writeList (L - 1) (halfBytes c), seq := .qWrite }
    else .refused .checksumCount

/-- Row `P_WAIT`: `Delay(typ)`; `elapsed <- typ` (spec/42_poll_read.md R100). -/
def stepPWait (s : State) : Out :=
  .next { s.delay s.typUs with elapsed := s.typUs, seq := .pRead }

/-- Row `P_READ`: one read; POLL_READ ends with the bytes, an exchange goes on to its tests (R100). -/
def stepPRead (s : State) : Out :=
  if readLengthFits s.readLen then
    let t := s.busReadInto s.addr s.readLen
    match s.bus.readRes s.readLen, s.op with
    | .ok bs, .pollRead => .next (t.succeed bs)
    | .ok _, _ => .next { t with seq := .vLen }
    | .fail, _ => .next { t with seq := .pBackoff }
  else .fault .readLength

/-- Row `P_BACKOFF`: `Delay(1000)`; `elapsed <- elapsed + 1000`; `TIMEOUT` when that exceeds `max`, strictly
(R100, D8). -/
def stepPBackoff (s : State) : Out :=
  let t := { s.delay pollIntervalUs with elapsed := s.elapsed + pollIntervalUs }
  if s.maxUs < s.elapsed + pollIntervalUs then
    match s.op with
    | .pollRead => t.raise .timeout
    | _ => .next (t.failExchange .timeout)
  else .next { t with seq := .pRead }

/-- Row `V_LEN`: the count test (spec/44_request.md R121). -/
def stepVLen (s : State) : Out :=
  withBytes (s.rbufRead 0 1) fun count =>
    if countOk (count.headD 0) s.readLen then .next { s with seq := .vCrc }
    else .next (s.failExchange .protocol)

/-- Row `V_CRC` on the bytes of `rbuf`: the trailing two bytes against `crc16(rbuf[0 .. n-2))`. Where the count byte
is below 2 or above `n`, `checksum_ok` is not defined and the step is refused (spec/40_checksum.md R84). `Step` takes
this path only where the count byte is not the profile's, which R123 excludes; the response meanings of
Machine/Responses.lean are the usual one (log 16). -/
def stepVCrc (s : State) : Out :=
  withBytes (s.rbufRead 0 s.readLen) fun bytes =>
    if checksumDefined bytes then
      let body := bytes.take (s.readLen - 2)
      if crc16 body = trailer bytes s.readLen then
        match s.op with
        | .request => .next ({ s with crc := crc16 body }.succeed body.tail)
        | _ => .next { s with crc := crc16 body, seq := .xPayload }
      else .next ({ s with crc := crc16 body }.failExchange .integrity)
    else .refused .checksumCount

/-- The payload of the exchange, `rbuf[1 .. n-2)` (spec/44_request.md R125). -/
def State.payload (s : State) : Except Fault (List Byte) := s.rbufRead 1 (respLen s.sel)

/-- `X_PAYLOAD` of READ_ZONE: the payload is the output (spec/45_operations.md R131). -/
def payloadReadZone (s : State) : Out :=
  withBytes s.payload fun bytes => .next { s with out := bytes, seq := .sSleep }

/-- `X_PAYLOAD` of READ_SERIAL: bytes [0..4) and [8..13) (R132). -/
def payloadReadSerial (s : State) : Out :=
  withBytes s.payload fun bytes => .next { s with out := serialOf bytes, seq := .sSleep }

/-- `X_PAYLOAD` of DERIVE_PUBLIC_KEY: the 64 bytes as received (R133). -/
def payloadDerivePublicKey (s : State) : Out :=
  withBytes s.payload fun bytes => .next { s with out := bytes, seq := .sSleep }

/-- `X_PAYLOAD` of SIGN (R134): after the Nonce exchange the status test, which leads to the Sign exchange or to
`PROTOCOL`; after the Sign exchange the signature as received. -/
def payloadSign (s : State) : Out :=
  withBytes s.payload fun bytes =>
    if s.exch then .next { s with out := bytes, seq := .sSleep }
    else if statusOk (bytes.headD 0) then .next { s with exch := true, seq := .bBuild }
    else s.raise .protocol

/-- Row `X_PAYLOAD`: the payload step of the composite command. -/
def stepXPayload (s : State) : Out :=
  match s.op with
  | .readZone => payloadReadZone s
  | .readSerial => payloadReadSerial s
  | .derivePublicKey => payloadDerivePublicKey s
  | .sign => payloadSign s
  | .checksum => .fault .noTransition
  | .pollRead => .fault .noTransition
  | .wakeup => .fault .noTransition
  | .sleep => .fault .noTransition
  | .request => .fault .noTransition

/-- Row `X_FAIL`: an exchange has failed with `err` set. The first failure of READ_SERIAL is tolerated and the
exchange repeated (R132); every other failure enters the error (spec/60_exceptions.md R156, R157). -/
def stepXFail (s : State) : Out :=
  match s.op, s.serialTry with
  | .readSerial, false => .next { s with serialTry := true, err := none, seq := .bBuild }
  | _, _ => s.errorEntry

/-- Row `DONE`. -/
def stepDone (s : State) : Out := .next s.finish

/-- The instruction whose frame `B_BUILD` builds: exchange `exch` of `op` (R14; R59 to R62; R131 to R134). -/
def State.builtFrame (s : State) : Option Instr :=
  match s.op with
  | .readZone =>
    if s.rlen = 32 then some (.read32 s.zone (zoneAddress s.zone s.slot s.block s.offset))
    else some (.read4 s.zone (zoneAddress s.zone s.slot s.block s.offset))
  | .readSerial => some (.read32 .config (zoneAddress .config 0 0 0))
  | .derivePublicKey => some (.genKey s.slot)
  | .sign => if s.exch then some (.sign s.slot) else some (.nonce s.data)
  | .checksum => none
  | .pollRead => none
  | .wakeup => none
  | .sleep => none
  | .request => none

/-- The table of R14 for the steps that no decoded packet decides. At `IDLE` with no command presented the block
waits. The write of `Q_WRITE` and the tokens of `W_PULSE`, `W_RESLEEP` and `S_SLEEP` are instructions of their
own, and `B_BUILD` always has a frame for a composite command (Machine/Fetch.lean). -/
def seqStep (s : State) : Out :=
  match s.seq with
  | .idle => .next s
  | .aCheck => stepACheck s
  | .cRun => stepCRun s
  | .wPulse => .fault .noTransition
  | .wSettle => stepWSettle s
  | .wVerify => wakeMismatch (s.busReadInto s.addr 4)
  | .wResleep => .fault .noTransition
  | .bBuild => .fault .noTransition
  | .qCrc => stepQCrc s
  | .qWrite => .fault .noTransition
  | .pWait => stepPWait s
  | .pRead => stepPRead s
  | .pBackoff => stepPBackoff s
  | .vLen => stepVLen s
  | .vCrc => stepVCrc s
  | .xPayload => stepXPayload s
  | .xFail => stepXFail s
  | .sSleep => .fault .noTransition
  | .done => stepDone s

end Sys2Proof.Machine
end

