-- ==== Sys2Proof/Machine/Fetch.lean ====
section
/-! DEFINITION. What stands at the block's ports: the packet the next step decodes (spec/10_state.md R14;
spec/30_encoding.md R71), and how an instruction is placed there. Log 1, log 14. -/

namespace Sys2Proof.Machine

/-- The bits of a Command Frame that `B_BUILD` is about to build. -/
def State.builtPacket (s : State) : Option Packet := s.builtFrame.map encode

/-- The Response Frame in `rbuf[0..n)`, read under the selected profile (R52, R67). -/
def State.responsePacket (s : State) : Option Packet :=
  match s.rbufRead 0 (frameLen s.sel) with
  | .ok bytes => some (.response s.sel bytes)
  | .error _ => none

/-- What the next step decodes, and the state it runs in: at `IDLE` the host's next command record, taken from the
host; the hardwired tokens; the frame `B_BUILD` builds; the four bytes of a wake verification, read from the bus;
the response in `rbuf`. `none` where no packet decides the step. -/
def State.packetAt (s : State) : Option (Packet × State) :=
  match s.seq with
  | .idle =>
    match s.hostQueue with
    | [] => none
    | r :: rest => some (.command r, { s with hostQueue := rest })
  | .wPulse => some (.token wakePulseByte, s)
  | .wVerify =>
    match s.bus.readRes 4 with
    | .ok bytes => some (.signature bytes, s.busReadInto s.addr 4)
    | .fail => none
  | .wResleep => some (.token waSleep, s)
  | .bBuild => s.builtPacket.map fun p => (p, s)
  | .qWrite => some (.token waCommandByte, s)
  | .vCrc => s.responsePacket.map fun p => (p, s)
  | .sSleep => some (.token waSleep, s)
  | .aCheck => none
  | .cRun => none
  | .wSettle => none
  | .qCrc => none
  | .pWait => none
  | .pRead => none
  | .pBackoff => none
  | .vLen => none
  | .xPayload => none
  | .xFail => none
  | .done => none

/-- The instruction the next step runs, and the state it runs in. `none` where the step is the sequencer's own:
there is no packet, or the bytes read are not the wake signature (R111). -/
def fetch (s : State) : Option (Instr × State) :=
  match s.packetAt with
  | none => none
  | some (p, t) =>
    match decode p with
    | .ok i => some (i, t)
    | .error _ => none

/-- The operands of READ_ZONE that give the Zone Address `za` by R57: the block's low byte of the address above
`offset`, and for the data zone the slot. Exact for a well-formed frame. -/
def State.withZoneAddress (s : State) (zone : Zone) (za : Half) : State :=
  match zone with
  | .data => { s with zone := zone, block := hiByte za, slot := (loByte za) >>> 3, offset := loByte za &&& 7 }
  | .config => { s with zone := zone, block := za.extractLsb' 3 8, offset := loByte za &&& 7 }
  | .otp => { s with zone := zone, block := za.extractLsb' 3 8, offset := loByte za &&& 7 }

/-- A command running (`busy`) at `q`, on behalf of `op`. -/
def State.running (s : State) (op : Op) (q : Seq) : State := { s with busy := true, op := op, seq := q }

/-- The state in which the bytes of a response stand in `rbuf` at `V_CRC` of a standalone REQUEST. -/
def State.withResponse (s : State) (p : Profile) (bytes : List Byte) : State :=
  { s.running .request .vCrc with sel := p, rbuf := s.rbuf.writeList 0 bytes }

/-- Places an instruction where the next step fetches it (log 14): a host command at the head of `hostQueue`, a
frame in the operands that build it, a token at the state that writes it, a signature in the next answer of the
bus, a response in `rbuf`. -/
def State.place (s : State) (i : Instr) : State :=
  match i with
  | .read4 zone za => { (s.withZoneAddress zone za).running .readZone .bBuild with rlen := 4 }
  | .read32 zone za => { (s.withZoneAddress zone za).running .readZone .bBuild with rlen := 32 }
  | .genKey slot => { s.running .derivePublicKey .bBuild with slot := slot }
  | .nonce data => { s.running .sign .bBuild with exch := false, data := data }
  | .sign slot => { s.running .sign .bBuild with exch := true, slot := slot }
  | .wakePulse => s.running .wakeup .wPulse
  | .sleepToken => s.running .sleep .sSleep
  | .waCommand => { s.running .request .qWrite with cbuf := s.cbuf.writeList 0 [waCommandByte, 0] }
  | i =>
    match encode i with
    | .signature bytes =>
      { s.running .wakeup .wVerify with bus := { s.bus with answers := .ok bytes :: s.bus.answers } }
    | .response p bytes => s.withResponse p bytes
    | .command r => { s with busy := false, seq := .idle, hostQueue := r :: s.hostQueue }
    | .frame _ => s
    | .token _ => s

end Sys2Proof.Machine
end

