-- ==== Sys2Proof/Machine/Pseudocode.lean ====
section
/-! DEFINITION. The commands as the pseudocode of spec/40_checksum.md to spec/45_operations.md gives them: from the
operands and the environment to the result and the environment, with no sequencer, no buffer and no register. The
statements compare the sequencer of spec/10_state.md R14 with it (the spec: a model may use any control structure
that gives the same result and the same trace, D20). The poll loop counts its reads by R101 instead of
accumulating. -/

namespace Sys2Proof.Machine

/-- What a command acts on outside the block, and the flag that mirrors it: the bus port and `link`. -/
structure Env where
  bus : Bus
  link : Link
deriving DecidableEq, Repr

/-- The environment of a state. -/
def State.env (s : State) : Env := ⟨s.bus, s.link⟩

/-- `Ok(value)` or `Err(kind)` (spec/00_scope.md R7). -/
abbrev Res := Except ErrKind (List Byte)

/-- The result register's value for a result. -/
def resultOf : Res → Result
  | .ok bs => .ok bs
  | .error k => .err k

/-- BusWrite (R90). -/
def Env.write (e : Env) (a : Addr) (bytes : List Byte) : Env := { e with bus := e.bus.write a bytes }

/-- BusRead (R91). -/
def Env.read (e : Env) (a : Addr) (n : Nat) : Env := { e with bus := e.bus.read a n }

/-- Delay (R92). -/
def Env.delay (e : Env) (us : Nat) : Env := { e with bus := e.bus.delay us }

/-- SLEEP (R113): the Sleep byte, then `link <- Dormant` whatever the result. -/
def pseudoSleep (addr : Addr) (e : Env) : Res × Env :=
  (match e.bus.writeRes with
    | .ok => .ok []
    | .fail => .error .io,
   { e.write addr [0x01] with link := .dormant })

/-- One pulse, settle, verify sequence (R111): whether the four bytes are the signature. -/
def pseudoVerify (addr : Addr) (e : Env) : Bool × Env :=
  let e := (e.write 0x00 [0x00]).delay 1500
  match e.bus.readRes 4 with
  | .ok bytes =>
    if bytes = [0x04, 0x11, 0x33, 0x43] then (true, { e.read addr 4 with link := .active })
    else (false, e.read addr 4)
  | .fail => (false, e.read addr 4)

/-- WAKEUP (R111): at most two sequences, a Sleep byte between them. -/
def pseudoWakeup (addr : Addr) (e : Env) : Res × Env :=
  match pseudoVerify addr e with
  | (true, e) => (.ok [], e)
  | (false, e) =>
    match pseudoVerify addr (pseudoSleep addr e).2 with
    | (true, e) => (.ok [], e)
    | (false, e) => (.error .deviceUnavailable, e)

/-- `K` of spec/42_poll_read.md R101: the most BusReads of a POLL_READ. The subtraction is that of natural
numbers, so it gives `K = 1` when `max < typ`. -/
def pollAttempts (typ max : Nat) : Nat := 1 + (max - typ) / 1000

/-- At most `k` reads, each failed one followed by a delay of 1000 (R100, R101). -/
def pseudoPollTries (addr : Addr) (n : Nat) : Nat → Env → Res × Env
  | 0, e => (.error .timeout, e)
  | k + 1, e =>
    match e.bus.readRes n with
    | .ok bytes => (.ok bytes, e.read addr n)
    | .fail => pseudoPollTries addr n k ((e.read addr n).delay 1000)

/-- POLL_READ (R100, R101). -/
def pseudoPollRead (addr : Addr) (n typ max : Nat) (e : Env) : Res × Env :=
  pseudoPollTries addr n (pollAttempts typ max) (e.delay typ)

/-- The two tests of a response of `n` bytes and its payload `rbuf[1 .. n-2)` (R120 to R125). -/
def pseudoValidate (n : Nat) (bytes : List Byte) : Res :=
  if (bytes.headD 0).toNat ≠ n then .error .protocol
  else if checksumOk bytes = some true then .ok ((bytes.drop 1).take (n - 3))
  else .error .integrity

/-- REQUEST (R120) of a frame whose bytes before the checksum are `body`. -/
def pseudoRequest (addr : Addr) (p : Profile) (times : ProfileTimes) (body : List Byte) (e : Env) : Res × Env :=
  match e.bus.writeRes with
  | .fail => (.error .io, e.write addr (waCommandByte :: withChecksum body))
  | .ok =>
    match pseudoPollRead addr (frameLen p) (times.at p).typ (times.at p).max
        (e.write addr (waCommandByte :: withChecksum body)) with
    | (.error k, e) => (.error k, e)
    | (.ok bytes, e) => (pseudoValidate (frameLen p) bytes, e)

/-- The common shape of the composite commands (spec/45_operations.md R130): WAKEUP, the exchanges if it
succeeded, SLEEP with its result discarded. -/
def pseudoBracket (addr : Addr) (exchanges : Env → Res × Env) (e : Env) : Res × Env :=
  match pseudoWakeup addr e with
  | (.error k, e) => (.error k, (pseudoSleep addr e).2)
  | (.ok _, e) => ((exchanges e).1, (pseudoSleep addr (exchanges e).2).2)

/-- The bytes of the READ frame before its checksum (R59). -/
def readBody (wide : Bool) (zone : Zone) (za : Half) : List Byte :=
  [0x07, 0x02, zoneByte zone wide, loByte za, hiByte za]

/-- READ_ZONE (R131). -/
def pseudoReadZone (addr : Addr) (zone : Zone) (slot block offset rlen : Byte) (times : ProfileTimes) (e : Env) :
    Res × Env :=
  if rlen ≠ 4 ∧ rlen ≠ 32 then (.error .invalidArgument, e)
  else if rlen = 32 then
    pseudoBracket addr (pseudoRequest addr .read32 times (readBody true zone (zoneAddress zone slot block offset))) e
  else
    pseudoBracket addr (pseudoRequest addr .read4 times (readBody false zone (zoneAddress zone slot block offset))) e

/-- The first exchange of READ_SERIAL, and the second if it failed (R132). -/
def pseudoReadSerialExchanges (addr : Addr) (times : ProfileTimes) (e : Env) : Res × Env :=
  let request := pseudoRequest addr .read32 times [0x07, 0x02, 0x80, 0x00, 0x00]
  match request e with
  | (.ok B, e) => (.ok (serialOf B), e)
  | (.error _, e) =>
    match request e with
    | (.ok B, e) => (.ok (serialOf B), e)
    | (.error k, e) => (.error k, e)

/-- READ_SERIAL (R132). -/
def pseudoReadSerial (addr : Addr) (times : ProfileTimes) (e : Env) : Res × Env :=
  pseudoBracket addr (pseudoReadSerialExchanges addr times) e

/-- DERIVE_PUBLIC_KEY (R133). -/
def pseudoDerivePublicKey (addr : Addr) (slot : Byte) (times : ProfileTimes) (e : Env) : Res × Env :=
  pseudoBracket addr (pseudoRequest addr .genKey times [0x07, 0x40, 0x00, slot, 0x00]) e

/-- The two exchanges of SIGN, with the status test between them (R134). -/
def pseudoSignExchanges (addr : Addr) (slot : Byte) (data : Vector Byte 32) (times : ProfileTimes) (e : Env) :
    Res × Env :=
  match pseudoRequest addr .nonce times ([0x27, 0x16, 0x03, 0x00, 0x00] ++ data.toList) e with
  | (.error k, e) => (.error k, e)
  | (.ok status, e) =>
    if status.headD 0 = 0x00 then pseudoRequest addr .sign times [0x07, 0x41, 0x80, slot, 0x00] e
    else (.error .protocol, e)

/-- SIGN (R134). -/
def pseudoSign (addr : Addr) (slot : Byte) (data : Vector Byte 32) (times : ProfileTimes) (e : Env) : Res × Env :=
  pseudoBracket addr (pseudoSignExchanges addr slot data times) e

/-- The pseudocode of a host command that R66 accepts; `none` for what is no host command or is refused. -/
def pseudoCommand (i : Instr) (times : ProfileTimes) (e : Env) : Option (Res × Env) :=
  match i with
  | .checksum F => (coveredLen F).map fun N => (.ok (halfBytes (crc16 (F.take N))), e)
  | .pollRead addr n typ max => if pollFits n then some (pseudoPollRead addr n.toNat typ max e) else none
  | .wakeup addr => some (pseudoWakeup addr e)
  | .sleep addr => some (pseudoSleep addr e)
  | .request addr prof F =>
    if requestFits F then some (pseudoRequest addr prof times (requestBody F) e) else none
  | .readZone addr zone slot block offset rlen => some (pseudoReadZone addr zone slot block offset rlen times e)
  | .readSerial addr => some (pseudoReadSerial addr times e)
  | .derivePublicKey addr slot => some (pseudoDerivePublicKey addr slot times e)
  | .signCmd addr slot data => some (pseudoSign addr slot data times e)
  | _ => none

end Sys2Proof.Machine
end

