-- ==== Sys2Proof/Safety.lean ====
section
/-! DEFINITION. The terms the statements use: running a command to its end, the states a run from reset passes
through, what is written on the bus. -/

namespace Sys2Proof.Machine

/-- Steps the block until it is at `IDLE`, at most `k` times; `none` if that is too few or a step stops. -/
def toIdle : Nat → State → Option State
  | 0, s => if s.seq = .idle then some s else none
  | k + 1, s =>
    if s.seq = .idle then some s
    else match step s with
      | .next t => toIdle k t
      | .fault _ => none
      | .refused _ => none

/-- The host command `i` is accepted in state `s` and its run ends at `IDLE` in state `u`. -/
def Runs (i : Instr) (s u : State) : Prop := ∃ t k, exec i s = .next t ∧ toIdle k t = some u

/-- Which commands the table of spec/10_state.md R14 brings to a state of the sequencer. -/
def opAllowed (q : Seq) (op : Op) : Bool :=
  match q with
  | .idle => true
  | .aCheck => op.composite
  | .cRun => op == .checksum
  | .wPulse => op == .wakeup || op.composite
  | .wSettle => op == .wakeup || op.composite
  | .wVerify => op == .wakeup || op.composite
  | .wResleep => op == .wakeup || op.composite
  | .bBuild => op.composite
  | .qCrc => op == .request || op.composite
  | .qWrite => op == .request || op.composite
  | .pWait => op == .pollRead || op == .request || op.composite
  | .pRead => op == .pollRead || op == .request || op.composite
  | .pBackoff => op == .pollRead || op == .request || op.composite
  | .vLen => op == .request || op.composite
  | .vCrc => op == .request || op.composite
  | .xPayload => op.composite
  | .xFail => op == .request || op.composite
  | .sSleep => op == .sleep || op.composite
  | .done => true

/-- The first `k` bytes of a buffer were written. -/
def writtenTo (m : Memory) (k : Nat) : Bool := (m.slice 0 k).isSome

/-- The bytes the next step reads were written (spec/10_state.md R21: "by the rules cited no command performs
such a read"). -/
def operandsReady (s : State) : Bool :=
  match s.seq with
  | .cRun => checksumDefined s.hostBuf
  | .qCrc =>
    match s.cbuf.read 1 with
    | some L => decide (7 ≤ L.toNat) && decide (L.toNat ≤ 39) && writtenTo s.cbuf (L.toNat - 1)
    | none => false
  | .qWrite =>
    match s.cbuf.read 1 with
    | some L => decide (7 ≤ L.toNat) && decide (L.toNat ≤ 39) && writtenTo s.cbuf (L.toNat + 1)
    | none => false
  | .pWait => s.op != .pollRead || pollFits s.n
  | .pRead => s.op != .pollRead || pollFits s.n
  | .pBackoff => s.op != .pollRead || pollFits s.n
  | .vLen => writtenTo s.rbuf (frameLen s.sel)
  | .vCrc => writtenTo s.rbuf (frameLen s.sel) && s.rbuf.read 0 == some (BitVec.ofNat 8 (frameLen s.sel))
  | .xPayload => writtenTo s.rbuf (frameLen s.sel)
  | _ => true

/-- The invariant of the runs from reset that rules out every fault of the model: the running command is one the
table brings to this state, and what the next step reads was written. -/
def Reachable (s : State) : Prop := opAllowed s.seq s.op = true ∧ operandsReady s = true

/-- The nine states whose step is one bus event (spec/10_state.md R14, after the table). -/
def Seq.touchesBus : Seq → Bool
  | .wPulse => true
  | .wSettle => true
  | .wVerify => true
  | .wResleep => true
  | .qWrite => true
  | .pWait => true
  | .pRead => true
  | .pBackoff => true
  | .sSleep => true
  | .idle => false
  | .aCheck => false
  | .cRun => false
  | .bBuild => false
  | .qCrc => false
  | .vLen => false
  | .vCrc => false
  | .xPayload => false
  | .xFail => false
  | .done => false

/-- The numbers of BusWrites, BusReads and Delays among the events (spec/70_reset_and_hazards.md R199). -/
def countWrites (es : List Event) : Nat :=
  es.countP fun e => match e with
    | .write _ _ _ => true
    | _ => false

/-- See `countWrites`. -/
def countReads (es : List Event) : Nat :=
  es.countP fun e => match e with
    | .read _ _ _ => true
    | _ => false

/-- See `countWrites`. -/
def countDelays (es : List Event) : Nat :=
  es.countP fun e => match e with
    | .delay _ => true
    | _ => false

/-- The sum of the Delay arguments (R199). -/
def delaySum (es : List Event) : Nat :=
  (es.map fun e => match e with
    | .delay us => us
    | _ => 0).sum

/-- The bounds of one command (R199): BusWrites, BusReads, Delays, and the sum of Delay arguments. -/
structure Bounds where
  writes : Nat
  reads : Nat
  delays : Nat
  delaySum : Nat
deriving DecidableEq, Repr

/-- `K(p)` of R199. -/
def attemptsOf (t : ProfileTimes) (p : Profile) : Nat := pollAttempts (t.at p).typ (t.at p).max

/-- `X(p)` of R199. -/
def exchangeDelay (t : ProfileTimes) (p : Profile) : Nat := (t.at p).typ + 1000 * attemptsOf t p

/-- The profile of READ_ZONE (spec/45_operations.md R131). -/
def zoneProfile (rlen : Byte) : Profile := if rlen = 32 then .read32 else .read4

/-- The table of R199. What is no host command has no bound of its own and is given none. -/
def boundsOf (t : ProfileTimes) : Instr → Bounds
  | .checksum _ => ⟨0, 0, 0, 0⟩
  | .sleep _ => ⟨1, 0, 0, 0⟩
  | .wakeup _ => ⟨3, 2, 2, 3000⟩
  | .pollRead _ _ typ max =>
    ⟨0, pollAttempts typ max, pollAttempts typ max + 1, typ + 1000 * pollAttempts typ max⟩
  | .request _ p _ => ⟨1, attemptsOf t p, attemptsOf t p + 1, exchangeDelay t p⟩
  | .readZone _ _ _ _ _ rlen =>
    ⟨5, 2 + attemptsOf t (zoneProfile rlen), 3 + attemptsOf t (zoneProfile rlen),
      3000 + exchangeDelay t (zoneProfile rlen)⟩
  | .readSerial _ =>
    ⟨6, 2 + 2 * attemptsOf t .read32, 2 + 2 * (attemptsOf t .read32 + 1), 3000 + 2 * exchangeDelay t .read32⟩
  | .derivePublicKey _ _ =>
    ⟨5, 2 + attemptsOf t .genKey, 3 + attemptsOf t .genKey, 3000 + exchangeDelay t .genKey⟩
  | .signCmd _ _ _ =>
    ⟨6, 2 + attemptsOf t .nonce + attemptsOf t .sign, 2 + (attemptsOf t .nonce + 1) + (attemptsOf t .sign + 1),
      3000 + exchangeDelay t .nonce + exchangeDelay t .sign⟩
  | _ => ⟨0, 0, 0, 0⟩

/-- A write of the transmitted buffer of a Sign frame: it begins `03 07 41` (spec/95_test_vectors.md S6). -/
def isSignWrite : Event → Bool
  | .write _ (0x03 :: 0x07 :: 0x41 :: _) _ => true
  | _ => false

/-- The nine host commands (spec/30_encoding.md R64). -/
def isHostCommand : Instr → Bool
  | .checksum _ => true
  | .pollRead _ _ _ _ => true
  | .wakeup _ => true
  | .sleep _ => true
  | .request _ _ _ => true
  | .readZone _ _ _ _ _ _ => true
  | .readSerial _ => true
  | .derivePublicKey _ _ => true
  | .signCmd _ _ _ => true
  | _ => false

/-- The device address of a composite command that passes the argument check (spec/30_encoding.md R66), hence of
one that wakes the chip. -/
def wakingAddr : Instr → Option Addr
  | .readZone addr _ _ _ _ rlen => if rlenFits rlen then some addr else none
  | .readSerial addr => some addr
  | .derivePublicKey addr _ => some addr
  | .signCmd addr _ _ => some addr
  | _ => none

/-- What a bus event may be for a command with device address `addr` (spec/20_memory.md R33, R37): the wake pulse
to address 0x00, or a transaction with the device; 1 to 40 bytes written, 1 to 67 read. -/
def eventAllowed (addr : Addr) : Event → Prop
  | .write a bytes _ =>
    (a = 0 ∧ bytes = [0x00]) ∨ (a = addr ∧ 1 ≤ bytes.length ∧ bytes.length ≤ 40)
  | .read a n res =>
    a = addr ∧ 1 ≤ n ∧ n ≤ 67 ∧ ∀ bytes, res = .ok bytes → bytes.length = n
  | .delay _ => True

/-- The registers a command loads at `IDLE` and nothing changes until it ends (spec/10_state.md R18): the operand
registers, with the caller's queue and the times of the profile table. -/
def sameOperands (s t : State) : Prop :=
  t.op = s.op ∧ t.addr = s.addr ∧ t.zone = s.zone ∧ t.slot = s.slot ∧ t.block = s.block ∧ t.offset = s.offset ∧
    t.rlen = s.rlen ∧ t.data = s.data ∧ t.prof = s.prof ∧ t.typ = s.typ ∧ t.max = s.max ∧ t.n = s.n ∧
    t.times = s.times ∧ t.hostQueue = s.hostQueue

end Sys2Proof.Machine
end

