-- ==== Sys2Proof/Certificates/Slice0/Obligations.lean ====
section
/-! DEFINITION. The statements for the provers, from the numbered rules of spec/. -/

open Sys2Proof Sys2Proof.Machine

/-! ### Encoding -/

/-- spec/30_encoding.md, sections 1 to 5: no bit of an encoding is dropped. -/
def Obligations.DecodeReadsBackEncode : Prop :=
  ∀ i : Instr, WellFormed i = true → decode (encode i) = .ok i

/-- spec/30_encoding.md R50, R52, R59 to R62, R67: bytes the decoder accepts are the encoding of what they stand
for. A Command Frame's last two bytes alone may be the two zero bytes of a frame still to be filled (log 15); a
Response Frame has the profile's length and count byte. -/
def Obligations.DecodedBytesAreTheirEncoding : Prop :=
  (∀ (bytes : List Byte) (i : Instr), decode (.frame bytes) = .ok i →
    encode i = .frame (withChecksum (bytes.take (bytes.length - 2)))) ∧
  (∀ (p : Profile) (bytes : List Byte) (i : Instr), decode (.response p bytes) = .ok i →
    encode i = .response p bytes ∧ bytes.length = respLen p + 3 ∧ (bytes.headD 0).toNat = respLen p + 3)

/-- Words written out from spec/30_encoding.md R51 to R62, R64 (spec/95_test_vectors.md V3, V4, V5), one or more
for each family. -/
def Obligations.WordsOfEveryFormatDecode : Prop :=
  decode (.frame [0x07, 0x02, 0x80, 0x00, 0x00, 0x09, 0xAD]) = .ok (.read32 .config 0x0000) ∧
  decode (.frame [0x07, 0x02, 0x02, 0x20, 0x01, 0x1D, 0xB3]) = .ok (.read4 .data 0x0120) ∧
  decode (.frame [0x07, 0x40, 0x00, 0x0F, 0x00, 0x0F, 0xA5]) = .ok (.genKey 0x0F) ∧
  decode (.frame [0x07, 0x41, 0x80, 0xFF, 0x00, 0x27, 0x87]) = .ok (.sign 0xFF) ∧
  decode (.token 0x00) = .ok .wakePulse ∧ decode (.token 0x01) = .ok .sleepToken ∧
  decode (.token 0x03) = .ok .waCommand ∧
  decode (.signature [0x04, 0x11, 0x33, 0x43]) = .ok .wakeSignature ∧
  decode (.response .nonce [0x04, 0x0F, 0x23, 0x42]) = .ok (.respNonce 0x0F 0x4223) ∧
  decode (.response .read4 [0x07, 0x11, 0x22, 0x33, 0x44, 0xAC, 0x20]) =
    .ok (.respRead4 [0x11, 0x22, 0x33, 0x44] 0x20AC) ∧
  decode (.command { blankRecord 0x6 with addr := 0x60 }) = .ok (.readSerial 0x60) ∧
  decode (.command { blankRecord 0x7 with addr := 0x60, slot := 4 }) = .ok (.derivePublicKey 0x60 4)

/-- spec/30_encoding.md R57: the Zone Address of each zone, cut to 16 bits (D18), and the rule's examples. -/
def Obligations.ZoneAddressFormula : Prop :=
  (∀ slot block offset : Byte,
    (zoneAddress .config slot block offset).toNat = 8 * block.toNat + offset.toNat % 8 ∧
    (zoneAddress .otp slot block offset).toNat = 8 * block.toNat + offset.toNat % 8 ∧
    (zoneAddress .data slot block offset).toNat =
      (256 * block.toNat + 8 * slot.toNat + offset.toNat % 8) % 65536) ∧
  zoneAddress .config 0 2 3 = 19 ∧ zoneAddress .data 4 1 0 = 288

/-! ### The Checksum Engine -/

/-- spec/40_checksum.md R86: a change confined to one byte of a covered region changes the checksum. -/
def Obligations.SingleByteChangeChangesChecksum : Prop :=
  ∀ (before after : List Byte) (b b' : Byte), b ≠ b' →
    crc16 (before ++ b :: after) ≠ crc16 (before ++ b' :: after)

/-- spec/40_checksum.md R83: linear over XOR for equal lengths; R80, corner cases: zero bytes leave a zero register
at zero, whatever their number. -/
def Obligations.ChecksumIsXorLinear : Prop :=
  (∀ A B : List Byte, A.length = B.length →
    crc16 (List.zipWith (fun a b => a ^^^ b) A B) = crc16 A ^^^ crc16 B) ∧
  (∀ k : Nat, crc16 (List.replicate k 0x00) = 0x0000)

/-- spec/40_checksum.md R83: the bytes of a checksum, bit-reversed and high byte first, bring the register back to
zero. -/
def Obligations.ReversedChecksumLeavesZero : Prop :=
  ∀ D : List Byte, crc16 (D ++ [(hiByte (crc16 D)).reverse, (loByte (crc16 D)).reverse]) = 0

/-- spec/40_checksum.md R81, R82: the frame that CHECKSUM completes is as long as before, keeps its covered region
and every byte from index `F[0]` on, and passes `checksum_ok`. A count byte of 2 is left out: there the checksum
overwrites the count byte itself (R81). -/
def Obligations.PlacedChecksumValidates : Prop :=
  ∀ (count : Byte) (rest : List Byte), 3 ≤ count.toNat → count.toNat ≤ rest.length + 1 →
    ∃ G, placeChecksum (count :: rest) = some G ∧ G.length = rest.length + 1 ∧
      G.take (count.toNat - 2) = (count :: rest).take (count.toNat - 2) ∧
      G.drop count.toNat = (count :: rest).drop count.toNat ∧ checksumOk G = some true

/-! ### Meanings: what each instruction does, and that it does nothing else -/

/-- READ4 and READ32 (spec/30_encoding.md R51, R57 to R59; spec/10_state.md R14, row `B_BUILD`): eight bytes of
`cbuf`, the profile and `seq` are written, nothing else. -/
def Obligations.ReadFramesAreBuilt : Prop :=
  ∀ (s : State) (zone : Zone) (za : Half),
    (∃ m : Memory, exec (.read4 zone za) s = .next { s with cbuf := m, sel := .read4, seq := .qCrc } ∧
      m.slice 0 8 = some ([0x03] ++ [0x07, 0x02, zoneCode zone, loByte za, hiByte za] ++
        halfBytes (crc16 [0x07, 0x02, zoneCode zone, loByte za, hiByte za])) ∧
      ∀ a, 8 ≤ a → m.read a = s.cbuf.read a) ∧
    (∃ m : Memory, exec (.read32 zone za) s = .next { s with cbuf := m, sel := .read32, seq := .qCrc } ∧
      m.slice 0 8 = some ([0x03] ++ [0x07, 0x02, zoneCode zone + 0x80, loByte za, hiByte za] ++
        halfBytes (crc16 [0x07, 0x02, zoneCode zone + 0x80, loByte za, hiByte za])) ∧
      ∀ a, 8 ≤ a → m.read a = s.cbuf.read a)

/-- GENKEY and SIGN (spec/30_encoding.md R60, R62): as `ReadFramesAreBuilt`. -/
def Obligations.SlotFramesAreBuilt : Prop :=
  ∀ (s : State) (slot : Byte),
    (∃ m : Memory, exec (.genKey slot) s = .next { s with cbuf := m, sel := .genKey, seq := .qCrc } ∧
      m.slice 0 8 = some ([0x03] ++ [0x07, 0x40, 0x00, slot, 0x00] ++
        halfBytes (crc16 [0x07, 0x40, 0x00, slot, 0x00])) ∧
      ∀ a, 8 ≤ a → m.read a = s.cbuf.read a) ∧
    (∃ m : Memory, exec (.sign slot) s = .next { s with cbuf := m, sel := .sign, seq := .qCrc } ∧
      m.slice 0 8 = some ([0x03] ++ [0x07, 0x41, 0x80, slot, 0x00] ++
        halfBytes (crc16 [0x07, 0x41, 0x80, slot, 0x00])) ∧
      ∀ a, 8 ≤ a → m.read a = s.cbuf.read a)

/-- NONCE (spec/30_encoding.md R61): the whole of `cbuf`, the profile and `seq`. -/
def Obligations.NonceFrameIsBuilt : Prop :=
  ∀ (s : State) (data : Vector Byte 32),
    ∃ m : Memory, exec (.nonce data) s = .next { s with cbuf := m, sel := .nonce, seq := .qCrc } ∧
      m.slice 0 40 = some ([0x03] ++ ([0x27, 0x16, 0x03, 0x00, 0x00] ++ data.toList) ++
        halfBytes (crc16 ([0x27, 0x16, 0x03, 0x00, 0x00] ++ data.toList))) ∧
      ∀ a, 40 ≤ a → m.read a = s.cbuf.read a

/-- WAKE_PULSE (spec/43_wake_sleep.md R111; R14, row `W_PULSE`): one write of 0x00 to address 0x00, its result
ignored. -/
def Obligations.WakePulseWritesZeroToAddressZero : Prop :=
  ∀ s : State, exec .wakePulse s = .next { s with bus := s.bus.write 0x00 [0x00], seq := .wSettle }

/-- SLEEP_TOKEN (spec/43_wake_sleep.md R111, R113, R114; R14, rows `W_RESLEEP` and `S_SLEEP`): between two wake
attempts, as a standalone SLEEP, and as the end of any other command. That a successful standalone SLEEP leaves `out`
empty is the model's reading (DEDUCED, log 9). -/
def Obligations.SleepTokenWritesOneAndSetsDormant : Prop :=
  ∀ s : State,
    (s.seq = .wResleep → exec .sleepToken s = .next { s with
      bus := s.bus.write s.addr [0x01], link := .dormant, wakeTry := true, seq := .wPulse }) ∧
    (s.seq ≠ .wResleep → s.op = .sleep → s.bus.writeRes = .ok → exec .sleepToken s = .next { s with
      bus := s.bus.write s.addr [0x01], link := .dormant, out := [], seq := .done }) ∧
    (s.seq ≠ .wResleep → s.op = .sleep → s.bus.writeRes = .fail → exec .sleepToken s = .next { s with
      bus := s.bus.write s.addr [0x01], link := .dormant, err := some .io, seq := .done }) ∧
    (s.seq ≠ .wResleep → s.op ≠ .sleep → exec .sleepToken s = .next { s with
      bus := s.bus.write s.addr [0x01], link := .dormant, seq := .done })

/-- WA_COMMAND (spec/30_encoding.md R51; spec/44_request.md R120; R14, row `Q_WRITE`): the transmitted buffer goes
to the device; a failed write is `IO`. -/
def Obligations.WaCommandWritesTransmittedBuffer : Prop :=
  ∀ (s : State) (L : Byte) (bytes : List Byte), s.cbuf.read 1 = some L → L.toNat ≤ 39 →
    s.cbuf.slice 0 (L.toNat + 1) = some bytes →
    (s.bus.writeRes = .ok → exec .waCommand s =
      .next { s with bus := s.bus.write s.addr bytes, seq := .pWait }) ∧
    (s.bus.writeRes = .fail → exec .waCommand s =
      .next { s with bus := s.bus.write s.addr bytes, err := some .io, seq := .xFail })

/-- WAKE_SIGNATURE (spec/43_wake_sleep.md R111; R14, row `W_VERIFY`, match). That WAKEUP leaves `out` empty is the
model's reading (DEDUCED, log 9). -/
def Obligations.WakeSignatureSetsActive : Prop :=
  ∀ s : State,
    (s.op = .wakeup → exec .wakeSignature s = .next { s with link := .active, out := [], seq := .done }) ∧
    (s.op.composite = true → exec .wakeSignature s = .next { s with link := .active, seq := .bBuild })

/-- RESP_READ4, RESP_READ32, RESP_GENKEY, RESP_SIGN, RESP_NONCE, in the order of `Profile` (spec/44_request.md
R122, R125; R14, row `V_CRC`): the received checksum against that of the count byte and the payload. -/
def Obligations.ResponsesPassTheChecksumTest : Prop :=
  ∀ (s : State) (p : Profile) (payload : List Byte) (crc : Half), payload.length = respLen p →
    let c := crc16 (BitVec.ofNat 8 (respLen p + 3) :: payload)
    (c = crc → s.op = .request →
      exec (responseInstr p payload crc) s = .next { s with crc := c, out := payload, seq := .done }) ∧
    (c = crc → s.op.composite = true →
      exec (responseInstr p payload crc) s = .next { s with crc := c, seq := .xPayload }) ∧
    (c ≠ crc →
      exec (responseInstr p payload crc) s = .next { s with crc := c, err := some .integrity, seq := .xFail })

/-- The row `IDLE` of spec/10_state.md R14 for the commands without a condition on their operands, WAKEUP, SLEEP,
READ_ZONE, READ_SERIAL, DERIVE_PUBLIC_KEY and SIGN_CMD: the operands are loaded, the context cleared, `busy` set.
What the accepted command then does is in the statements named `…FollowsPseudocode`. -/
def Obligations.CommandsAreAcceptedAtIdle : Prop :=
  ∀ s : State, s.seq = .idle →
    (∀ a, exec (.wakeup a) s = .next { s with
      op := .wakeup, exch := false, wakeTry := false, serialTry := false,
      err := none, busy := true, seq := .wPulse, addr := a }) ∧
    (∀ a, exec (.sleep a) s = .next { s with
      op := .sleep, exch := false, wakeTry := false, serialTry := false,
      err := none, busy := true, seq := .sSleep, addr := a }) ∧
    (∀ a z sl b o r, exec (.readZone a z sl b o r) s = .next { s with
      op := .readZone, exch := false,
      wakeTry := false, serialTry := false, err := none, busy := true, seq := .aCheck, addr := a, zone := z,
      slot := sl, block := b, offset := o, rlen := r }) ∧
    (∀ a, exec (.readSerial a) s = .next { s with
      op := .readSerial, exch := false, wakeTry := false,
      serialTry := false, err := none, busy := true, seq := .aCheck, addr := a }) ∧
    (∀ a sl, exec (.derivePublicKey a sl) s = .next { s with
      op := .derivePublicKey, exch := false,
      wakeTry := false, serialTry := false, err := none, busy := true, seq := .aCheck, addr := a, slot := sl }) ∧
    (∀ a sl d, exec (.signCmd a sl d) s = .next { s with
      op := .sign, exch := false, wakeTry := false,
      serialTry := false, err := none, busy := true, seq := .aCheck, addr := a, slot := sl, data := d })

/-- The row `IDLE` for CHECKSUM, POLL_READ and REQUEST, whose operands spec/30_encoding.md R66 restricts. The bytes
`F[0 .. F[0]-2)` of a REQUEST go to `cbuf` after the word-address byte (spec/44_request.md R120; log 7); that
`len(F) = F[0] - 2` is accepted beside `len(F) >= F[0]` is the model's choice (log 6). -/
def Obligations.RestrictedCommandsAreAcceptedAtIdle : Prop :=
  ∀ s : State, s.seq = .idle →
    (∀ count rest, 2 ≤ BitVec.toNat count → BitVec.toNat count ≤ rest.length + 1 →
      exec (.checksum (count :: rest)) s = .next { s with
        op := .checksum, exch := false, wakeTry := false,
        serialTry := false, err := none, busy := true, seq := .cRun, hostBuf := count :: rest }) ∧
    (∀ a n typ max, 1 ≤ BitVec.toNat n → BitVec.toNat n ≤ 67 →
      exec (.pollRead a n typ max) s = .next { s with
        op := .pollRead, exch := false, wakeTry := false,
        serialTry := false, err := none, busy := true, seq := .pWait, addr := a, n := n, typ := typ, max := max }) ∧
    (∀ a p count rest, 7 ≤ BitVec.toNat count → BitVec.toNat count ≤ 39 →
      (BitVec.toNat count ≤ rest.length + 1 ∨ BitVec.toNat count = rest.length + 3) →
      ∃ m : Memory, exec (.request a p (count :: rest)) s = .next { s with
        op := .request, exch := false,
        wakeTry := false, serialTry := false, err := none, busy := true, seq := .qCrc, addr := a, prof := p,
        sel := p, cbuf := m } ∧
        m.slice 0 (BitVec.toNat count - 1) = some (0x03 :: (count :: rest).take (BitVec.toNat count - 2)) ∧
        ∀ x, BitVec.toNat count - 1 ≤ x → m.read x = s.cbuf.read x)

/-- spec/30_encoding.md R66 and spec/40_checksum.md R84: the inputs to which the spec gives no meaning are refused,
and no others of these three commands (the lengths of `F` a REQUEST may have are the model's choice, log 6);
`checksum_ok` has no value exactly where R84 leaves it undefined, and the checksum test of a response is refused
there (V_LEN keeps every run from it, log 16). -/
def Obligations.UndefinedOperandsAreRefused : Prop :=
  (∀ s : State, s.seq = .idle →
    (∀ F, exec (.checksum F) s = .refused .checksumCount ↔
      F = [] ∨ (F.headD 0).toNat < 2 ∨ F.length < (F.headD 0).toNat) ∧
    (∀ a n typ max, exec (.pollRead a n typ max) s = .refused .pollLength ↔
      BitVec.toNat n = 0 ∨ 67 < BitVec.toNat n) ∧
    (∀ a p F, exec (.request a p F) s = .refused .requestCount ↔
      F = [] ∨ (F.headD 0).toNat < 7 ∨ 39 < (F.headD 0).toNat ∨
        (F.length < (F.headD 0).toNat ∧ F.length + 2 ≠ (F.headD 0).toNat))) ∧
  (∀ G : List Byte, checksumOk G = none ↔ G = [] ∨ (G.headD 0).toNat < 2 ∨ G.length < (G.headD 0).toNat) ∧
  (∀ (s : State) (bytes : List Byte), s.seq = .vCrc → s.op ≠ .pollRead →
    s.rbuf.slice 0 (respLen s.sel + 3) = some bytes → checksumOk bytes = none → step s = .refused .checksumCount)

/-- spec/30_encoding.md R66: RESERVED_9 to RESERVED_15 are refused, and every select code from 9 on is one of
them. -/
def Obligations.ReservedSelectCodesAreRefused : Prop :=
  ∀ s : State, s.seq = .idle →
    exec .reserved9 s = .refused (.reservedSelect 9) ∧ exec .reserved10 s = .refused (.reservedSelect 10) ∧
    exec .reserved11 s = .refused (.reservedSelect 11) ∧ exec .reserved12 s = .refused (.reservedSelect 12) ∧
    exec .reserved13 s = .refused (.reservedSelect 13) ∧ exec .reserved14 s = .refused (.reservedSelect 14) ∧
    exec .reserved15 s = .refused (.reservedSelect 15) ∧
    ∀ r : CommandRecord, 9 ≤ r.cmd.toNat → exec (decodeCommand r) s = .refused (.reservedSelect r.cmd.toNat)

/-- spec/30_encoding.md R66; spec/70_reset_and_hazards.md R186: no host command while one is running; that
its meaning there is this refusal is the model's choice (log 17). -/
def Obligations.CommandsAreRefusedWhileBusy : Prop :=
  ∀ (s : State) (r : CommandRecord), s.seq ≠ .idle → exec (decodeCommand r) s = .refused .hostBusy

/-! ### The step -/

/-- spec/10_state.md R14; spec/30_encoding.md R71: where the bits at a port decode to an instruction, the step is
that instruction's meaning. At `IDLE` the record is taken from the host; in a wake verification the bytes are read
from the bus first; elsewhere the step adds nothing. Which state consults which port is the model's choice
(log 1). -/
def Obligations.StepRunsTheDecodedInstruction : Prop :=
  ∀ (s : State) (i : Instr),
    (∀ r rest, s.seq = .idle → s.hostQueue = r :: rest → decode (.command r) = .ok i →
      step s = exec i { s with hostQueue := rest }) ∧
    (s.seq = .wPulse → decode (.token 0x00) = .ok i → step s = exec i s) ∧
    (s.seq = .wResleep ∨ s.seq = .sSleep → decode (.token 0x01) = .ok i → step s = exec i s) ∧
    (s.seq = .qWrite → decode (.token 0x03) = .ok i → step s = exec i s) ∧
    (∀ bytes, s.seq = .wVerify → s.bus.readRes 4 = .ok bytes → decode (.signature bytes) = .ok i →
      step s = exec i { s with bus := s.bus.read s.addr 4, rbuf := s.rbuf.writeList 0 bytes }) ∧
    (∀ j, s.seq = .bBuild → s.builtFrame = some j → decode (encode j) = .ok i → step s = exec i s) ∧
    (∀ bytes, s.seq = .vCrc → s.rbuf.slice 0 (respLen s.sel + 3) = some bytes →
      decode (.response s.sel bytes) = .ok i → step s = exec i s)

/-- Log 14: a well-formed instruction placed by `State.place` is what the next step fetches and runs. -/
def Obligations.PlacedInstructionIsRunNext : Prop :=
  ∀ (s : State) (i : Instr), WellFormed i = true →
    ∃ t, fetch (s.place i) = some (i, t) ∧ step (s.place i) = exec i t

/-- spec/10_state.md R14 (after its table); spec/20_memory.md R40; spec/41_bus_transport.md R95: exactly the nine
states that touch the bus append to the trace, one event each. -/
def Obligations.EachBusStateAppendsOneEvent : Prop :=
  ∀ s t : State, step s = .next t →
    if s.seq.touchesBus = true then ∃ e, t.bus.trace = s.bus.trace ++ [e] else t.bus = s.bus

/-- spec/20_memory.md R33, R37: every event is the wake pulse to address 0x00 or a transaction with the device,
within the sizes of the buffers. -/
def Obligations.EventsAddressOnlyTheDeviceOrZero : Prop :=
  ∀ (s t : State) (e : Event), step s = .next t → t.bus.trace = s.bus.trace ++ [e] → eventAllowed s.addr e

/-- spec/10_state.md R18; spec/20_memory.md R43; spec/70_reset_and_hazards.md R186: while a command runs, its
operands and what the host has still to present do not change; no step changes the Opcode Profile table. -/
def Obligations.OperandsAreReadOnlyWhileRunning : Prop :=
  ∀ s t : State, step s = .next t → t.times = s.times ∧ (s.seq ≠ .idle → sameOperands s t)

/-- spec/10_state.md R11: `crc` is written by `C_RUN`, `Q_CRC` and `V_CRC` only, where `crc16` runs, with the
checksum of the covered bytes; and no step reads it: with another value in it, the step is the same up to `crc`. -/
def Obligations.ChecksumRegisterIsWrittenOnlyByCrc16 : Prop :=
  ∀ s t : State, step s = .next t →
    (s.seq ≠ .cRun → s.seq ≠ .qCrc → s.seq ≠ .vCrc → t.crc = s.crc) ∧
    (s.seq = .cRun → t.crc = crc16 (s.hostBuf.take ((s.hostBuf.headD 0).toNat - 2))) ∧
    (s.seq = .qCrc → ∃ L body, s.cbuf.read 1 = some L ∧ s.cbuf.slice 1 (L.toNat - 2) = some body ∧
      t.crc = crc16 body) ∧
    (s.seq = .vCrc → s.op ≠ .pollRead → ∃ body, s.rbuf.slice 0 (respLen s.sel + 1) = some body ∧
      t.crc = crc16 body) ∧
    (∀ c : Half, ∃ c', step { s with crc := c } = .next { t with crc := c' })

/-- spec/10_state.md R13: `rbuf` is written by a successful BusRead only, its `n` bytes at `rbuf[0..n)`; the bytes
from index `n` on keep their content. -/
def Obligations.ResponseBufferHoldsTheLastRead : Prop :=
  ∀ s t : State, step s = .next t →
    (s.seq ≠ .wVerify → s.seq ≠ .pRead → t.rbuf = s.rbuf) ∧
    (∀ n, (s.seq = .wVerify ∧ n = 4) ∨ (s.seq = .pRead ∧ n = s.readLen) →
      (s.bus.readRes n = .fail → t.rbuf = s.rbuf) ∧
      (∀ bytes, s.bus.readRes n = .ok bytes →
        t.rbuf.slice 0 n = some bytes ∧ ∀ a, n ≤ a → t.rbuf.read a = s.rbuf.read a))

/-- spec/10_state.md R16: `elapsed` is set at `P_WAIT`, increased by 1000 at `P_BACKOFF`, and written nowhere
else. -/
def Obligations.ElapsedCountsDelayArguments : Prop :=
  ∀ s t : State, step s = .next t →
    (s.seq = .pWait → t.elapsed = s.typUs ∧ t.bus.trace = s.bus.trace ++ [.delay s.typUs]) ∧
    (s.seq = .pBackoff → t.elapsed = s.elapsed + 1000 ∧ t.bus.trace = s.bus.trace ++ [.delay 1000]) ∧
    (s.seq ≠ .pWait → s.seq ≠ .pBackoff → t.elapsed = s.elapsed)

/-- spec/10_state.md R14, R17: `result` is written at `DONE` only, from `err` and `out`, and `busy` is cleared
there. -/
def Obligations.ResultIsPresentedAtDone : Prop :=
  ∀ s t : State, step s = .next t →
    (s.seq ≠ .done → t.result = s.result) ∧
    (s.seq = .done → t.busy = false ∧ t.seq = .idle ∧
      (s.err = none → t.result = .ok s.out) ∧ (∀ k, s.err = some k → t.result = .err k))

/-- spec/43_wake_sleep.md R110: the two transitions of `link` and no others. -/
def Obligations.LinkHasTwoTransitions : Prop :=
  ∀ s t : State, step s = .next t →
    (s.seq = .wVerify → s.bus.readRes 4 = .ok [0x04, 0x11, 0x33, 0x43] → t.link = .active) ∧
    (s.seq = .wResleep ∨ s.seq = .sSleep → t.link = .dormant) ∧
    (s.seq ≠ .wResleep → s.seq ≠ .sSleep →
      ¬(s.seq = .wVerify ∧ s.bus.readRes 4 = .ok [0x04, 0x11, 0x33, 0x43]) → t.link = s.link)

/-- spec/43_wake_sleep.md R114; spec/10_state.md R17: every write of the Sleep byte sets `link` to `Dormant`, a
failed one included, and no step reads `link`: with another value in it, the step is the same up to `link`. -/
def Obligations.SleepByteSetsDormantAndLinkIsNeverRead : Prop :=
  (∀ s : State, s.seq = .wResleep ∨ s.seq = .sSleep → ∃ t, step s = .next t ∧ t.link = .dormant ∧
    t.bus = s.bus.write s.addr [0x01]) ∧
  (∀ (s t : State) (l : Link), step s = .next t →
    ∃ l', step { s with link := l } = .next { t with link := l' }) ∧
  (∀ (s : State) (f : Fault) (l : Link), step s = .fault f → step { s with link := l } = .fault f) ∧
  (∀ (s : State) (r : Refusal) (l : Link), step s = .refused r → step { s with link := l } = .refused r)

/-- spec/44_request.md R121, R123: the count test, equality with the number of bytes read; a wrong count is
`PROTOCOL` and the checksum test is not made. -/
def Obligations.CountTestComesFirst : Prop :=
  ∀ (s : State) (count : Byte), s.seq = .vLen → s.op ≠ .pollRead → s.rbuf.read 0 = some count →
    (count.toNat = respLen s.sel + 3 → step s = .next { s with seq := .vCrc }) ∧
    (count.toNat ≠ respLen s.sel + 3 → step s = .next { s with err := some .protocol, seq := .xFail }) ∧
    (respLen s.sel + 3 = match s.sel with
      | .read4 => 7
      | .read32 => 35
      | .genKey => 67
      | .nonce => 4
      | .sign => 67)

/-- spec/44_request.md R122 (after R123): the last two bytes read against the checksum of the bytes before them. -/
def Obligations.ChecksumTestComparesTheTrailer : Prop :=
  ∀ (s : State) (bytes : List Byte), s.seq = .vCrc → s.op = .request ∨ s.op.composite = true →
    s.rbuf.slice 0 (respLen s.sel + 3) = some bytes → (bytes.headD 0).toNat = respLen s.sel + 3 →
    let c := crc16 (bytes.take (respLen s.sel + 1))
    (checksumOk bytes = some true ↔
      bytes[respLen s.sel + 1]? = some (loByte c) ∧ bytes[respLen s.sel + 2]? = some (hiByte c)) ∧
    (checksumOk bytes = some true → s.op = .request →
      step s = .next { s with crc := c, out := (bytes.drop 1).take (respLen s.sel), seq := .done }) ∧
    (checksumOk bytes = some true → s.op.composite = true →
      step s = .next { s with crc := c, seq := .xPayload }) ∧
    (checksumOk bytes = some false → step s = .next { s with crc := c, err := some .integrity, seq := .xFail })

/-- spec/60_exceptions.md R154: whatever the Sleep write returns, a composite command ends with the output or the
remembered error it had before it; the Sleep between two wake attempts leads to the second attempt, and changes
neither the latched error nor the output. -/
def Obligations.CleanupSleepNeverChangesTheResult : Prop :=
  ∀ s : State,
    (s.seq = .sSleep → s.op.composite = true → ∃ t u, step s = .next t ∧ step t = .next u ∧ u.seq = .idle ∧
      u.result = (match s.err with
        | none => .ok s.out
        | some k => .err k)) ∧
    (s.seq = .wResleep → ∃ t, step s = .next t ∧ t.err = s.err ∧ t.out = s.out ∧ t.result = s.result ∧
      t.wakeTry = true ∧ t.seq = .wPulse)

/-! ### Invariants -/

/-- spec/10_state.md R12, R13; spec/20_memory.md R31, R32 (the canonical form is the model's, log 5): every step
keeps both buffers canonical, inside 40 and 67 bytes. -/
def Obligations.BuffersStayCanonical : Prop :=
  ∀ s t : State, Memory.wf 40 s.cbuf = true → Memory.wf 67 s.rbuf = true → step s = .next t →
    Memory.wf 40 t.cbuf = true ∧ Memory.wf 67 t.rbuf = true

/-- spec/10_state.md R17: `out` and the bytes of `result` stay within 67 bytes. -/
def Obligations.OutputStaysWithinCapacity : Prop :=
  ∀ s t : State, s.out.length ≤ 67 → s.result.bytes.length ≤ 67 → step s = .next t →
    t.out.length ≤ 67 ∧ t.result.bytes.length ≤ 67

/-- spec/10_state.md R17: every step keeps `busy = 1` exactly when `seq` is not `IDLE`. -/
def Obligations.BusyExactlyWhenNotIdle : Prop :=
  ∀ s t : State, (s.busy = true ↔ s.seq ≠ .idle) → step s = .next t → (t.busy = true ↔ t.seq ≠ .idle)

/-- spec/10_state.md R14, R21: the running command stays one that the table of R14 brings to its state, and what
the next step reads stays written. -/
def Obligations.ReachableIsKept : Prop :=
  ∀ s t : State, Reachable s → step s = .next t → Reachable t

/-- spec/10_state.md R21 ("by the rules cited no command performs such a read"), R14: no step from such a state
faults. -/
def Obligations.ReachableStatesNeverFault : Prop :=
  ∀ (s : State) (f : Fault), Reachable s → step s ≠ .fault f

/-- spec/30_encoding.md R66: from such a state a step is refused only at `IDLE`, on a host command the spec gives
no meaning; for a REQUEST that is the model's choice of log 6. -/
def Obligations.OnlyUndefinedHostInputIsRefused : Prop :=
  ∀ (s : State) (r : Refusal), Reachable s → step s = .refused r →
    s.seq = .idle ∧ ∃ c rest, s.hostQueue = c :: rest ∧
      (WellFormed (decodeCommand c) = false ∨ 9 ≤ c.cmd.toNat)

/-- spec/10_state.md R21; spec/70_reset_and_hazards.md R180: `IDLE`, not busy, `Dormant`, an empty trace. -/
def Obligations.ResetIsIdleDormantWithEmptyTrace : Prop :=
  State.reset.seq = .idle ∧ State.reset.busy = false ∧ State.reset.link = .dormant ∧
    State.reset.bus.trace = []

/-- The invariants of this section hold at reset. That they can: the registers the spec leaves unspecified have the
values of log 4, and the buffers are empty (log 5); the model's choice. -/
def Obligations.InvariantsHoldAtReset : Prop :=
  Reachable State.reset ∧ Memory.wf 40 State.reset.cbuf = true ∧ Memory.wf 67 State.reset.rbuf = true ∧
    (State.reset.busy = true ↔ State.reset.seq ≠ .idle) ∧ State.reset.out.length ≤ 67 ∧
    State.reset.result.bytes.length ≤ 67

/-! ### Whole commands: accepted, run to the end, and what the host and the bus then see -/

/-- CHECKSUM (spec/40_checksum.md R81): the result is the two checksum bytes, the caller's buffer has them at
`F[N]` and `F[N+1]`, `crc` holds the checksum, and the bus and `link` are untouched. -/
def Obligations.ChecksumFollowsPseudocode : Prop :=
  ∀ (s : State) (count : Byte) (rest : List Byte), s.seq = .idle → 2 ≤ count.toNat →
    count.toNat ≤ rest.length + 1 →
    let N := count.toNat - 2
    let c := crc16 ((count :: rest).take N)
    ∃ u, Runs (.checksum (count :: rest)) s u ∧ u.busy = false ∧ u.result = .ok (halfBytes c) ∧
      u.hostBuf = (count :: rest).take N ++ halfBytes c ++ (count :: rest).drop (N + 2) ∧ u.crc = c ∧
      u.env = s.env

/-- POLL_READ (spec/42_poll_read.md R100, R101): accepted and run to the end, its result, trace and `link` are
those of the pseudocode. -/
def Obligations.PollReadFollowsPseudocode : Prop :=
  ∀ (s : State) (addr : Addr) (n : Byte) (typ max : Nat), s.seq = .idle → 1 ≤ n.toNat → n.toNat ≤ 67 →
    ∃ u, Runs (.pollRead addr n typ max) s u ∧ u.busy = false ∧
      u.result = resultOf (pseudoPollRead addr n.toNat typ max s.env).1 ∧
      u.env = (pseudoPollRead addr n.toNat typ max s.env).2

/-- WAKEUP (spec/43_wake_sleep.md R111), likewise. A success has no output byte (DEDUCED, log 9). -/
def Obligations.WakeupFollowsPseudocode : Prop :=
  ∀ (s : State) (addr : Addr), s.seq = .idle →
    ∃ u, Runs (.wakeup addr) s u ∧ u.busy = false ∧
      u.result = resultOf (pseudoWakeup addr s.env).1 ∧ u.env = (pseudoWakeup addr s.env).2

/-- SLEEP (spec/43_wake_sleep.md R113), likewise. A success has no output byte (DEDUCED, log 9). -/
def Obligations.SleepFollowsPseudocode : Prop :=
  ∀ (s : State) (addr : Addr), s.seq = .idle →
    ∃ u, Runs (.sleep addr) s u ∧ u.busy = false ∧
      u.result = resultOf (pseudoSleep addr s.env).1 ∧ u.env = (pseudoSleep addr s.env).2

/-- REQUEST (spec/44_request.md R120 to R125), likewise, for every frame with `F[0]` from 7 to 39
and `len(F) >= F[0]` or `len(F) = F[0] - 2` (the model's choice, log 6). -/
def Obligations.RequestFollowsPseudocode : Prop :=
  ∀ (s : State) (addr : Addr) (p : Profile) (count : Byte) (rest : List Byte), s.seq = .idle →
    7 ≤ count.toNat → count.toNat ≤ 39 →
    (count.toNat ≤ rest.length + 1 ∨ count.toNat = rest.length + 3) →
    let body := (count :: rest).take (count.toNat - 2)
    ∃ u, Runs (.request addr p (count :: rest)) s u ∧ u.busy = false ∧
      u.result = resultOf (pseudoRequest addr p s.times body s.env).1 ∧
      u.env = (pseudoRequest addr p s.times body s.env).2

/-- READ_ZONE (spec/45_operations.md R131), likewise, for every length. -/
def Obligations.ReadZoneFollowsPseudocode : Prop :=
  ∀ (s : State) (addr : Addr) (zone : Zone) (slot block offset rlen : Byte), s.seq = .idle →
    ∃ u, Runs (.readZone addr zone slot block offset rlen) s u ∧ u.busy = false ∧
      u.result = resultOf (pseudoReadZone addr zone slot block offset rlen s.times s.env).1 ∧
      u.env = (pseudoReadZone addr zone slot block offset rlen s.times s.env).2

/-- READ_SERIAL (spec/45_operations.md R132), likewise. -/
def Obligations.ReadSerialFollowsPseudocode : Prop :=
  ∀ (s : State) (addr : Addr), s.seq = .idle →
    ∃ u, Runs (.readSerial addr) s u ∧ u.busy = false ∧
      u.result = resultOf (pseudoReadSerial addr s.times s.env).1 ∧
      u.env = (pseudoReadSerial addr s.times s.env).2

/-- DERIVE_PUBLIC_KEY (spec/45_operations.md R133), likewise. -/
def Obligations.DerivePublicKeyFollowsPseudocode : Prop :=
  ∀ (s : State) (addr : Addr) (slot : Byte), s.seq = .idle →
    ∃ u, Runs (.derivePublicKey addr slot) s u ∧ u.busy = false ∧
      u.result = resultOf (pseudoDerivePublicKey addr slot s.times s.env).1 ∧
      u.env = (pseudoDerivePublicKey addr slot s.times s.env).2

/-- SIGN_CMD, the host command SIGN (spec/45_operations.md R134), likewise. -/
def Obligations.SignFollowsPseudocode : Prop :=
  ∀ (s : State) (addr : Addr) (slot : Byte) (data : Vector Byte 32), s.seq = .idle →
    ∃ u, Runs (.signCmd addr slot data) s u ∧ u.busy = false ∧
      u.result = resultOf (pseudoSign addr slot data s.times s.env).1 ∧
      u.env = (pseudoSign addr slot data s.times s.env).2

/-- spec/43_wake_sleep.md R115: WAKEUP ends after at most two pulses, two delays of 1500, two reads of four bytes
and one Sleep write, in the order of R111; a signature read ends it with success and `Active`, and after two
mismatches it ends with `DEVICE_UNAVAILABLE`, without a third attempt. That the result of a success is `Ok` with no
output byte is the model's reading (DEDUCED, log 9). -/
def Obligations.WakeupIsBounded : Prop :=
  ∀ (s : State) (addr : Addr), s.seq = .idle →
    ∃ u es, Runs (.wakeup addr) s u ∧ u.bus.trace = s.bus.trace ++ es ∧
      (delaySum es = 1500 ∨ delaySum es = 3000) ∧
      ((∃ w, es = [.write 0x00 [0x00] w, .delay 1500, .read addr 4 (.ok [0x04, 0x11, 0x33, 0x43])] ∧
          u.result = .ok [] ∧ u.link = .active) ∨
       (∃ w w' w'' r r', r ≠ .ok [0x04, 0x11, 0x33, 0x43] ∧
          es = [.write 0x00 [0x00] w, .delay 1500, .read addr 4 r, .write addr [0x01] w',
            .write 0x00 [0x00] w'', .delay 1500, .read addr 4 r'] ∧
          (r' = .ok [0x04, 0x11, 0x33, 0x43] → u.result = .ok [] ∧ u.link = .active) ∧
          (r' ≠ .ok [0x04, 0x11, 0x33, 0x43] → u.result = .err .deviceUnavailable ∧ u.link = .dormant)))

/-- spec/42_poll_read.md R101: when the first `K` reads fail, POLL_READ ends with `TIMEOUT` after exactly `K` reads,
each followed by a delay of 1000, and `elapsed` is the sum of the Delay arguments. -/
def Obligations.PollReadTimesOutAfterKReads : Prop :=
  ∀ (s : State) (addr : Addr) (n : Byte) (typ max : Nat) (more : List Answer), s.seq = .idle →
    1 ≤ n.toNat → n.toNat ≤ 67 →
    let K := 1 + (max - typ) / 1000
    s.bus.answers = List.replicate K .fail ++ more →
    ∃ u, Runs (.pollRead addr n typ max) s u ∧ u.result = .err .timeout ∧ u.elapsed = typ + 1000 * K ∧
      u.rbuf = s.rbuf ∧ u.bus.trace = s.bus.trace ++ [.delay typ] ++
        (List.replicate K [Event.read addr n.toNat .fail, Event.delay 1000]).flatten

/-- spec/42_poll_read.md R103: a read that succeeds on attempt `j + 1`, at most `K`, returns its bytes after
`typ + 1000 j` of delay. -/
def Obligations.PollReadReturnsTheFirstAnswer : Prop :=
  ∀ (s : State) (addr : Addr) (n : Byte) (typ max j : Nat) (bytes : List Byte) (more : List Answer),
    s.seq = .idle → 1 ≤ n.toNat → n.toNat ≤ 67 → j ≤ (max - typ) / 1000 → bytes.length = n.toNat →
    s.bus.answers = List.replicate j .fail ++ .ok bytes :: more →
    ∃ u, Runs (.pollRead addr n typ max) s u ∧ u.result = .ok bytes ∧ u.elapsed = typ + 1000 * j ∧
      u.bus.answers = more

/-- spec/30_encoding.md R66; spec/45_operations.md R131: a length other than 4 or 32 is rejected with no bus event,
no Delay and no Sleep. -/
def Obligations.BadReadLengthTouchesNoBus : Prop :=
  ∀ (s : State) (addr : Addr) (zone : Zone) (slot block offset rlen : Byte), s.seq = .idle →
    rlen ≠ 4 → rlen ≠ 32 →
    ∃ u, Runs (.readZone addr zone slot block offset rlen) s u ∧ u.result = .err .invalidArgument ∧
      u.bus = s.bus ∧ u.link = s.link

/-- spec/45_operations.md R130; spec/60_exceptions.md R156: READ_ZONE past its argument check, READ_SERIAL,
DERIVE_PUBLIC_KEY and SIGN_CMD, whatever the bus answers, end with one Sleep write to the device and `link`
`Dormant`. -/
def Obligations.CompositeCommandsEndWithSleep : Prop :=
  ∀ (i : Instr) (s : State) (addr : Addr), s.seq = .idle → wakingAddr i = some addr →
    ∃ u es r, Runs i s u ∧ u.bus.trace = s.bus.trace ++ es ++ [.write addr [0x01] r] ∧ u.link = .dormant

/-- spec/45_operations.md R134: in a run of SIGN_CMD the Sign frame is written only straight after the Nonce
exchange has read `04 00 03 40`, a status byte of 0 with its checksum. -/
def Obligations.SignFrameFollowsOnlyAGoodNonce : Prop :=
  ∀ (s u : State) (addr : Addr) (slot : Byte) (data : Vector Byte 32) (before after : List Event) (w : Event),
    s.seq = .idle → Runs (.signCmd addr slot data) s u →
    u.bus.trace = s.bus.trace ++ before ++ w :: after → isSignWrite w = true →
    ∃ before', before = before' ++ [.read addr 4 (.ok [0x04, 0x00, 0x03, 0x40])]

/-- spec/70_reset_and_hazards.md R199: every host command ends, within the table's bounds on bus events and on the
sum of Delay arguments, whatever the bus answers. The operands are those `WellFormed` accepts; for a REQUEST that
`len(F) = F[0] - 2` is accepted beside `len(F) >= F[0]` is the model's choice (log 6). -/
def Obligations.EveryCommandEndsWithinBounds : Prop :=
  ∀ (i : Instr) (s : State), s.seq = .idle → isHostCommand i = true → WellFormed i = true →
    ∃ u es, Runs i s u ∧ u.bus.trace = s.bus.trace ++ es ∧
      countWrites es ≤ (boundsOf s.times i).writes ∧ countReads es ≤ (boundsOf s.times i).reads ∧
      countDelays es ≤ (boundsOf s.times i).delays ∧ delaySum es ≤ (boundsOf s.times i).delaySum

/-- spec/70_reset_and_hazards.md R182: the result and the events of a command depend on its operands, the profile
table and the bus's answers alone, on nothing an earlier command left behind. -/
def Obligations.CommandsKeepNothingFromEarlierOnes : Prop :=
  ∀ (i : Instr) (s s' u u' : State), s.seq = .idle → s'.seq = .idle → isHostCommand i = true →
    s'.times = s.times → s'.bus.answers = s.bus.answers → s'.bus.ansIdx = s.bus.ansIdx →
    Runs i s u → Runs i s' u' →
    u'.result = u.result ∧ ∃ es, u.bus.trace = s.bus.trace ++ es ∧ u'.bus.trace = s'.bus.trace ++ es
end

