-- ==== Sys2Proof/Laws/Memory.lean ====
section
/-! SUPPORT. The buffers: a read after a write, the bytes a write leaves alone, and the canonical form, which every
operation keeps. -/

namespace Sys2Proof.Laws

open Sys2Proof.Machine

/-- A read after a write at the same index gives the byte written. -/
@[simp] theorem Memory.read_write_same (m : Memory) (a : Nat) (b : Byte) : (m.write a b).read a = some b := by
  induction m with
  | nil => simp [Memory.write, Memory.read]
  | cons c m ih =>
    obtain ⟨k, x⟩ := c
    simp only [Memory.write]
    split
    · simp [Memory.read]
    · split
      · simp [Memory.read]
      · simp [Memory.read, *]

/-- A write leaves every other index alone. -/
theorem Memory.read_write_other (m : Memory) (a x : Nat) (b : Byte) (h : x ≠ a) :
    (m.write a b).read x = m.read x := by
  induction m with
  | nil => simp [Memory.write, Memory.read, h]
  | cons c m ih =>
    obtain ⟨k, y⟩ := c
    simp only [Memory.write]
    split
    · simp [Memory.read, h]
    · split
      · subst_vars; simp [Memory.read, h]
      · simp [Memory.read, ih]

/-- What a read finds after the bytes `bs` were written at `a`. -/
theorem Memory.read_writeList (m : Memory) (bs : List Byte) (a x : Nat) :
    (m.writeList a bs).read x = if a ≤ x ∧ x < a + bs.length then bs[x - a]? else m.read x := by
  induction bs generalizing m a with
  | nil => simp [Memory.writeList]
  | cons b bs ih =>
    rw [Memory.writeList, ih]
    by_cases h1 : x = a
    · subst h1; simp
    · by_cases h2 : a ≤ x
      · have h3 : x - a = (x - (a + 1)) + 1 := by omega
        have h4 : (a + 1 ≤ x ∧ x < a + 1 + bs.length) ↔ (a ≤ x ∧ x < a + (b :: bs).length) := by
          simp; omega
        simp only [h4]
        split
        · rw [h3]; simp
        · exact Memory.read_write_other _ _ _ _ h1
      · rw [if_neg (by omega), if_neg (by omega), Memory.read_write_other _ _ _ _ h1]

/-- A slice is all there, byte for byte. -/
theorem Memory.slice_eq_some (m : Memory) (a k : Nat) (bs : List Byte) :
    m.slice a k = some bs ↔ bs.length = k ∧ ∀ j, j < k → m.read (a + j) = bs[j]? := by
  induction k generalizing a bs with
  | zero =>
    cases bs <;> simp [Memory.slice]
  | succ k ih =>
    simp only [Memory.slice]
    constructor
    · intro h
      split at h
      · next b cs hb hcs =>
        simp only [Option.some.injEq] at h
        subst h
        obtain ⟨hl, hr⟩ := (ih (a + 1) cs).1 hcs
        refine ⟨by simp [hl], fun j hj => ?_⟩
        cases j with
        | zero => simpa using hb
        | succ j =>
          have := hr j (by omega)
          rw [show a + 1 + j = a + (j + 1) by omega] at this
          simpa using this
      · cases h
    · rintro ⟨hl, hr⟩
      cases bs with
      | nil => simp at hl
      | cons b cs =>
        have hb : m.read a = some b := by simpa using hr 0 (by omega)
        have hcs : m.slice (a + 1) k = some cs := by
          refine (ih (a + 1) cs).2 ⟨by simpa using hl, fun j hj => ?_⟩
          have := hr (j + 1) (by omega)
          rw [show a + (j + 1) = a + 1 + j by omega] at this
          simpa using this
        rw [hb, hcs]

/-- The bytes just written are read back. -/
@[simp] theorem Memory.slice_writeList (m : Memory) (a : Nat) (bs : List Byte) :
    (m.writeList a bs).slice a bs.length = some bs := by
  rw [Memory.slice_eq_some]
  refine ⟨rfl, fun j hj => ?_⟩
  rw [Memory.read_writeList, if_pos (by omega)]
  simp

/-- A slice is there when each of its bytes was written. -/
theorem Memory.slice_isSome (m : Memory) (a k : Nat) :
    (m.slice a k).isSome = true ↔ ∀ j, j < k → (m.read (a + j)).isSome = true := by
  induction k generalizing a with
  | zero => simp [Memory.slice]
  | succ k ih =>
    simp only [Memory.slice]
    constructor
    · intro h j hj
      split at h
      · next b cs hb hcs =>
        cases j with
        | zero => simp [hb]
        | succ j =>
          have := (ih (a + 1)).1 (by simp [hcs]) j (by omega)
          rwa [show a + 1 + j = a + (j + 1) by omega] at this
      · simp at h
    · intro h
      have h0 := h 0 (by omega)
      have h1 : (m.slice (a + 1) k).isSome = true := (ih (a + 1)).2 fun j hj => by
        have := h (j + 1) (by omega)
        rwa [show a + (j + 1) = a + 1 + j by omega] at this
      obtain ⟨b, hb⟩ := Option.isSome_iff_exists.1 h0
      obtain ⟨cs, hcs⟩ := Option.isSome_iff_exists.1 h1
      rw [Nat.add_zero] at hb
      simp [hb, hcs]

theorem Memory.wfFrom_mono (cap lo lo' : Nat) (m : Memory) (h : Memory.wfFrom cap lo m = true) (hl : lo' ≤ lo) :
    Memory.wfFrom cap lo' m = true := by
  cases m with
  | nil => rfl
  | cons c m =>
    obtain ⟨k, x⟩ := c
    simp only [Memory.wfFrom, Bool.and_eq_true, decide_eq_true_eq] at h ⊢
    exact ⟨⟨by omega, h.1.2⟩, h.2⟩

/-- A write inside the capacity keeps the canonical form, from any lower bound of its indices. -/
theorem Memory.write_wfFrom (cap lo a : Nat) (m : Memory) (b : Byte) (h : Memory.wfFrom cap lo m = true)
    (hlo : lo ≤ a) (ha : a < cap) : Memory.wfFrom cap lo (m.write a b) = true := by
  induction m generalizing lo with
  | nil => simp [Memory.write, Memory.wfFrom, hlo, ha]
  | cons c m ih =>
    obtain ⟨k, x⟩ := c
    simp only [Memory.wfFrom, Bool.and_eq_true, decide_eq_true_eq] at h
    obtain ⟨⟨h1, h2⟩, h3⟩ := h
    simp only [Memory.write]
    split
    · next hak =>
      simp only [Memory.wfFrom, Bool.and_eq_true, decide_eq_true_eq]
      exact ⟨⟨hlo, ha⟩, ⟨by omega, h2⟩, h3⟩
    · split
      · next hak =>
        subst hak
        simp only [Memory.wfFrom, Bool.and_eq_true, decide_eq_true_eq]
        exact ⟨⟨hlo, ha⟩, h3⟩
      · simp only [Memory.wfFrom, Bool.and_eq_true, decide_eq_true_eq]
        exact ⟨⟨h1, h2⟩, ih (k + 1) h3 (by omega)⟩

/-- A write inside the capacity keeps the canonical form. -/
theorem Memory.write_wf (cap a : Nat) (m : Memory) (b : Byte) (h : Memory.wf cap m = true) (ha : a < cap) :
    Memory.wf cap (m.write a b) = true :=
  Memory.write_wfFrom cap 0 a m b h (Nat.zero_le a) ha

/-- A run of writes inside the capacity keeps the canonical form. -/
theorem Memory.writeList_wf (cap a : Nat) (m : Memory) (bs : List Byte) (h : Memory.wf cap m = true)
    (ha : a + bs.length ≤ cap) : Memory.wf cap (m.writeList a bs) = true := by
  induction bs generalizing m a with
  | nil => exact h
  | cons b bs ih =>
    simp only [List.length_cons] at ha
    exact ih (a + 1) (m.write a b) (Memory.write_wf cap a m b h (by omega)) (by omega)

/-- The buffers are canonical after reset. -/
theorem reset_buffers_wf : Memory.wf cmdBufCap State.reset.cbuf = true ∧
    Memory.wf rspBufCap State.reset.rbuf = true := by decide

end Sys2Proof.Laws
end

