-- ==== Sys2Proof/Laws/State.lean ====
section
/-! SUPPORT. What each register holds after each named update of the state: one lemma per field per update. -/

namespace Sys2Proof.Laws

open Sys2Proof.Machine

variable (s : State)

@[simp] theorem accept_crc (op : Op) : (s.accept op).crc = s.crc := rfl

@[simp] theorem accept_cbuf (op : Op) : (s.accept op).cbuf = s.cbuf := rfl

@[simp] theorem accept_rbuf (op : Op) : (s.accept op).rbuf = s.rbuf := rfl

@[simp] theorem accept_seq (op : Op) : (s.accept op).seq = op.first := rfl

@[simp] theorem accept_op (op : Op) : (s.accept op).op = op := rfl

@[simp] theorem accept_exch (op : Op) : (s.accept op).exch = false := rfl

@[simp] theorem accept_wakeTry (op : Op) : (s.accept op).wakeTry = false := rfl

@[simp] theorem accept_serialTry (op : Op) : (s.accept op).serialTry = false := rfl

@[simp] theorem accept_err (op : Op) : (s.accept op).err = none := rfl

@[simp] theorem accept_elapsed (op : Op) : (s.accept op).elapsed = s.elapsed := rfl

@[simp] theorem accept_link (op : Op) : (s.accept op).link = s.link := rfl

@[simp] theorem accept_busy (op : Op) : (s.accept op).busy = true := rfl

@[simp] theorem accept_result (op : Op) : (s.accept op).result = s.result := rfl

@[simp] theorem accept_out (op : Op) : (s.accept op).out = s.out := rfl

@[simp] theorem accept_addr (op : Op) : (s.accept op).addr = s.addr := rfl

@[simp] theorem accept_zone (op : Op) : (s.accept op).zone = s.zone := rfl

@[simp] theorem accept_slot (op : Op) : (s.accept op).slot = s.slot := rfl

@[simp] theorem accept_block (op : Op) : (s.accept op).block = s.block := rfl

@[simp] theorem accept_offset (op : Op) : (s.accept op).offset = s.offset := rfl

@[simp] theorem accept_rlen (op : Op) : (s.accept op).rlen = s.rlen := rfl

@[simp] theorem accept_data (op : Op) : (s.accept op).data = s.data := rfl

@[simp] theorem accept_prof (op : Op) : (s.accept op).prof = s.prof := rfl

@[simp] theorem accept_typ (op : Op) : (s.accept op).typ = s.typ := rfl

@[simp] theorem accept_max (op : Op) : (s.accept op).max = s.max := rfl

@[simp] theorem accept_n (op : Op) : (s.accept op).n = s.n := rfl

@[simp] theorem accept_sel (op : Op) : (s.accept op).sel = s.sel := rfl

@[simp] theorem accept_hostBuf (op : Op) : (s.accept op).hostBuf = s.hostBuf := rfl

@[simp] theorem accept_times (op : Op) : (s.accept op).times = s.times := rfl

@[simp] theorem accept_bus (op : Op) : (s.accept op).bus = s.bus := rfl

@[simp] theorem accept_hostQueue (op : Op) : (s.accept op).hostQueue = s.hostQueue := rfl

@[simp] theorem loadFrame_crc (F : List Byte) : (s.loadFrame F).crc = s.crc := rfl

@[simp] theorem loadFrame_cbuf (F : List Byte) : (s.loadFrame F).cbuf = s.cbuf.writeList 0 (waCommandByte :: F) := rfl

@[simp] theorem loadFrame_rbuf (F : List Byte) : (s.loadFrame F).rbuf = s.rbuf := rfl

@[simp] theorem loadFrame_seq (F : List Byte) : (s.loadFrame F).seq = s.seq := rfl

@[simp] theorem loadFrame_op (F : List Byte) : (s.loadFrame F).op = s.op := rfl

@[simp] theorem loadFrame_exch (F : List Byte) : (s.loadFrame F).exch = s.exch := rfl

@[simp] theorem loadFrame_wakeTry (F : List Byte) : (s.loadFrame F).wakeTry = s.wakeTry := rfl

@[simp] theorem loadFrame_serialTry (F : List Byte) : (s.loadFrame F).serialTry = s.serialTry := rfl

@[simp] theorem loadFrame_err (F : List Byte) : (s.loadFrame F).err = s.err := rfl

@[simp] theorem loadFrame_elapsed (F : List Byte) : (s.loadFrame F).elapsed = s.elapsed := rfl

@[simp] theorem loadFrame_link (F : List Byte) : (s.loadFrame F).link = s.link := rfl

@[simp] theorem loadFrame_busy (F : List Byte) : (s.loadFrame F).busy = s.busy := rfl

@[simp] theorem loadFrame_result (F : List Byte) : (s.loadFrame F).result = s.result := rfl

@[simp] theorem loadFrame_out (F : List Byte) : (s.loadFrame F).out = s.out := rfl

@[simp] theorem loadFrame_addr (F : List Byte) : (s.loadFrame F).addr = s.addr := rfl

@[simp] theorem loadFrame_zone (F : List Byte) : (s.loadFrame F).zone = s.zone := rfl

@[simp] theorem loadFrame_slot (F : List Byte) : (s.loadFrame F).slot = s.slot := rfl

@[simp] theorem loadFrame_block (F : List Byte) : (s.loadFrame F).block = s.block := rfl

@[simp] theorem loadFrame_offset (F : List Byte) : (s.loadFrame F).offset = s.offset := rfl

@[simp] theorem loadFrame_rlen (F : List Byte) : (s.loadFrame F).rlen = s.rlen := rfl

@[simp] theorem loadFrame_data (F : List Byte) : (s.loadFrame F).data = s.data := rfl

@[simp] theorem loadFrame_prof (F : List Byte) : (s.loadFrame F).prof = s.prof := rfl

@[simp] theorem loadFrame_typ (F : List Byte) : (s.loadFrame F).typ = s.typ := rfl

@[simp] theorem loadFrame_max (F : List Byte) : (s.loadFrame F).max = s.max := rfl

@[simp] theorem loadFrame_n (F : List Byte) : (s.loadFrame F).n = s.n := rfl

@[simp] theorem loadFrame_sel (F : List Byte) : (s.loadFrame F).sel = s.sel := rfl

@[simp] theorem loadFrame_hostBuf (F : List Byte) : (s.loadFrame F).hostBuf = s.hostBuf := rfl

@[simp] theorem loadFrame_times (F : List Byte) : (s.loadFrame F).times = s.times := rfl

@[simp] theorem loadFrame_bus (F : List Byte) : (s.loadFrame F).bus = s.bus := rfl

@[simp] theorem loadFrame_hostQueue (F : List Byte) : (s.loadFrame F).hostQueue = s.hostQueue := rfl

@[simp] theorem build_crc (p : Profile) (F : List Byte) : (s.build p F).crc = s.crc := rfl

@[simp] theorem build_cbuf (p : Profile) (F : List Byte) : (s.build p F).cbuf = s.cbuf.writeList 0 (waCommandByte :: F) := rfl

@[simp] theorem build_rbuf (p : Profile) (F : List Byte) : (s.build p F).rbuf = s.rbuf := rfl

@[simp] theorem build_seq (p : Profile) (F : List Byte) : (s.build p F).seq = .qCrc := rfl

@[simp] theorem build_op (p : Profile) (F : List Byte) : (s.build p F).op = s.op := rfl

@[simp] theorem build_exch (p : Profile) (F : List Byte) : (s.build p F).exch = s.exch := rfl

@[simp] theorem build_wakeTry (p : Profile) (F : List Byte) : (s.build p F).wakeTry = s.wakeTry := rfl

@[simp] theorem build_serialTry (p : Profile) (F : List Byte) : (s.build p F).serialTry = s.serialTry := rfl

@[simp] theorem build_err (p : Profile) (F : List Byte) : (s.build p F).err = s.err := rfl

@[simp] theorem build_elapsed (p : Profile) (F : List Byte) : (s.build p F).elapsed = s.elapsed := rfl

@[simp] theorem build_link (p : Profile) (F : List Byte) : (s.build p F).link = s.link := rfl

@[simp] theorem build_busy (p : Profile) (F : List Byte) : (s.build p F).busy = s.busy := rfl

@[simp] theorem build_result (p : Profile) (F : List Byte) : (s.build p F).result = s.result := rfl

@[simp] theorem build_out (p : Profile) (F : List Byte) : (s.build p F).out = s.out := rfl

@[simp] theorem build_addr (p : Profile) (F : List Byte) : (s.build p F).addr = s.addr := rfl

@[simp] theorem build_zone (p : Profile) (F : List Byte) : (s.build p F).zone = s.zone := rfl

@[simp] theorem build_slot (p : Profile) (F : List Byte) : (s.build p F).slot = s.slot := rfl

@[simp] theorem build_block (p : Profile) (F : List Byte) : (s.build p F).block = s.block := rfl

@[simp] theorem build_offset (p : Profile) (F : List Byte) : (s.build p F).offset = s.offset := rfl

@[simp] theorem build_rlen (p : Profile) (F : List Byte) : (s.build p F).rlen = s.rlen := rfl

@[simp] theorem build_data (p : Profile) (F : List Byte) : (s.build p F).data = s.data := rfl

@[simp] theorem build_prof (p : Profile) (F : List Byte) : (s.build p F).prof = s.prof := rfl

@[simp] theorem build_typ (p : Profile) (F : List Byte) : (s.build p F).typ = s.typ := rfl

@[simp] theorem build_max (p : Profile) (F : List Byte) : (s.build p F).max = s.max := rfl

@[simp] theorem build_n (p : Profile) (F : List Byte) : (s.build p F).n = s.n := rfl

@[simp] theorem build_sel (p : Profile) (F : List Byte) : (s.build p F).sel = p := rfl

@[simp] theorem build_hostBuf (p : Profile) (F : List Byte) : (s.build p F).hostBuf = s.hostBuf := rfl

@[simp] theorem build_times (p : Profile) (F : List Byte) : (s.build p F).times = s.times := rfl

@[simp] theorem build_bus (p : Profile) (F : List Byte) : (s.build p F).bus = s.bus := rfl

@[simp] theorem build_hostQueue (p : Profile) (F : List Byte) : (s.build p F).hostQueue = s.hostQueue := rfl

@[simp] theorem busWrite_crc (a : Addr) (bs : List Byte) : (s.busWrite a bs).crc = s.crc := rfl

@[simp] theorem busWrite_cbuf (a : Addr) (bs : List Byte) : (s.busWrite a bs).cbuf = s.cbuf := rfl

@[simp] theorem busWrite_rbuf (a : Addr) (bs : List Byte) : (s.busWrite a bs).rbuf = s.rbuf := rfl

@[simp] theorem busWrite_seq (a : Addr) (bs : List Byte) : (s.busWrite a bs).seq = s.seq := rfl

@[simp] theorem busWrite_op (a : Addr) (bs : List Byte) : (s.busWrite a bs).op = s.op := rfl

@[simp] theorem busWrite_exch (a : Addr) (bs : List Byte) : (s.busWrite a bs).exch = s.exch := rfl

@[simp] theorem busWrite_wakeTry (a : Addr) (bs : List Byte) : (s.busWrite a bs).wakeTry = s.wakeTry := rfl

@[simp] theorem busWrite_serialTry (a : Addr) (bs : List Byte) : (s.busWrite a bs).serialTry = s.serialTry := rfl

@[simp] theorem busWrite_err (a : Addr) (bs : List Byte) : (s.busWrite a bs).err = s.err := rfl

@[simp] theorem busWrite_elapsed (a : Addr) (bs : List Byte) : (s.busWrite a bs).elapsed = s.elapsed := rfl

@[simp] theorem busWrite_link (a : Addr) (bs : List Byte) : (s.busWrite a bs).link = s.link := rfl

@[simp] theorem busWrite_busy (a : Addr) (bs : List Byte) : (s.busWrite a bs).busy = s.busy := rfl

@[simp] theorem busWrite_result (a : Addr) (bs : List Byte) : (s.busWrite a bs).result = s.result := rfl

@[simp] theorem busWrite_out (a : Addr) (bs : List Byte) : (s.busWrite a bs).out = s.out := rfl

@[simp] theorem busWrite_addr (a : Addr) (bs : List Byte) : (s.busWrite a bs).addr = s.addr := rfl

@[simp] theorem busWrite_zone (a : Addr) (bs : List Byte) : (s.busWrite a bs).zone = s.zone := rfl

@[simp] theorem busWrite_slot (a : Addr) (bs : List Byte) : (s.busWrite a bs).slot = s.slot := rfl

@[simp] theorem busWrite_block (a : Addr) (bs : List Byte) : (s.busWrite a bs).block = s.block := rfl

@[simp] theorem busWrite_offset (a : Addr) (bs : List Byte) : (s.busWrite a bs).offset = s.offset := rfl

@[simp] theorem busWrite_rlen (a : Addr) (bs : List Byte) : (s.busWrite a bs).rlen = s.rlen := rfl

@[simp] theorem busWrite_data (a : Addr) (bs : List Byte) : (s.busWrite a bs).data = s.data := rfl

@[simp] theorem busWrite_prof (a : Addr) (bs : List Byte) : (s.busWrite a bs).prof = s.prof := rfl

@[simp] theorem busWrite_typ (a : Addr) (bs : List Byte) : (s.busWrite a bs).typ = s.typ := rfl

@[simp] theorem busWrite_max (a : Addr) (bs : List Byte) : (s.busWrite a bs).max = s.max := rfl

@[simp] theorem busWrite_n (a : Addr) (bs : List Byte) : (s.busWrite a bs).n = s.n := rfl

@[simp] theorem busWrite_sel (a : Addr) (bs : List Byte) : (s.busWrite a bs).sel = s.sel := rfl

@[simp] theorem busWrite_hostBuf (a : Addr) (bs : List Byte) : (s.busWrite a bs).hostBuf = s.hostBuf := rfl

@[simp] theorem busWrite_times (a : Addr) (bs : List Byte) : (s.busWrite a bs).times = s.times := rfl

@[simp] theorem busWrite_bus (a : Addr) (bs : List Byte) : (s.busWrite a bs).bus = s.bus.write a bs := rfl

@[simp] theorem busWrite_hostQueue (a : Addr) (bs : List Byte) : (s.busWrite a bs).hostQueue = s.hostQueue := rfl

@[simp] theorem delay_crc (us : Nat) : (s.delay us).crc = s.crc := rfl

@[simp] theorem delay_cbuf (us : Nat) : (s.delay us).cbuf = s.cbuf := rfl

@[simp] theorem delay_rbuf (us : Nat) : (s.delay us).rbuf = s.rbuf := rfl

@[simp] theorem delay_seq (us : Nat) : (s.delay us).seq = s.seq := rfl

@[simp] theorem delay_op (us : Nat) : (s.delay us).op = s.op := rfl

@[simp] theorem delay_exch (us : Nat) : (s.delay us).exch = s.exch := rfl

@[simp] theorem delay_wakeTry (us : Nat) : (s.delay us).wakeTry = s.wakeTry := rfl

@[simp] theorem delay_serialTry (us : Nat) : (s.delay us).serialTry = s.serialTry := rfl

@[simp] theorem delay_err (us : Nat) : (s.delay us).err = s.err := rfl

@[simp] theorem delay_elapsed (us : Nat) : (s.delay us).elapsed = s.elapsed := rfl

@[simp] theorem delay_link (us : Nat) : (s.delay us).link = s.link := rfl

@[simp] theorem delay_busy (us : Nat) : (s.delay us).busy = s.busy := rfl

@[simp] theorem delay_result (us : Nat) : (s.delay us).result = s.result := rfl

@[simp] theorem delay_out (us : Nat) : (s.delay us).out = s.out := rfl

@[simp] theorem delay_addr (us : Nat) : (s.delay us).addr = s.addr := rfl

@[simp] theorem delay_zone (us : Nat) : (s.delay us).zone = s.zone := rfl

@[simp] theorem delay_slot (us : Nat) : (s.delay us).slot = s.slot := rfl

@[simp] theorem delay_block (us : Nat) : (s.delay us).block = s.block := rfl

@[simp] theorem delay_offset (us : Nat) : (s.delay us).offset = s.offset := rfl

@[simp] theorem delay_rlen (us : Nat) : (s.delay us).rlen = s.rlen := rfl

@[simp] theorem delay_data (us : Nat) : (s.delay us).data = s.data := rfl

@[simp] theorem delay_prof (us : Nat) : (s.delay us).prof = s.prof := rfl

@[simp] theorem delay_typ (us : Nat) : (s.delay us).typ = s.typ := rfl

@[simp] theorem delay_max (us : Nat) : (s.delay us).max = s.max := rfl

@[simp] theorem delay_n (us : Nat) : (s.delay us).n = s.n := rfl

@[simp] theorem delay_sel (us : Nat) : (s.delay us).sel = s.sel := rfl

@[simp] theorem delay_hostBuf (us : Nat) : (s.delay us).hostBuf = s.hostBuf := rfl

@[simp] theorem delay_times (us : Nat) : (s.delay us).times = s.times := rfl

@[simp] theorem delay_bus (us : Nat) : (s.delay us).bus = s.bus.delay us := rfl

@[simp] theorem delay_hostQueue (us : Nat) : (s.delay us).hostQueue = s.hostQueue := rfl

@[simp] theorem setActive_crc : (s.setActive).crc = s.crc := rfl

@[simp] theorem setActive_cbuf : (s.setActive).cbuf = s.cbuf := rfl

@[simp] theorem setActive_rbuf : (s.setActive).rbuf = s.rbuf := rfl

@[simp] theorem setActive_seq : (s.setActive).seq = s.seq := rfl

@[simp] theorem setActive_op : (s.setActive).op = s.op := rfl

@[simp] theorem setActive_exch : (s.setActive).exch = s.exch := rfl

@[simp] theorem setActive_wakeTry : (s.setActive).wakeTry = s.wakeTry := rfl

@[simp] theorem setActive_serialTry : (s.setActive).serialTry = s.serialTry := rfl

@[simp] theorem setActive_err : (s.setActive).err = s.err := rfl

@[simp] theorem setActive_elapsed : (s.setActive).elapsed = s.elapsed := rfl

@[simp] theorem setActive_link : (s.setActive).link = .active := rfl

@[simp] theorem setActive_busy : (s.setActive).busy = s.busy := rfl

@[simp] theorem setActive_result : (s.setActive).result = s.result := rfl

@[simp] theorem setActive_out : (s.setActive).out = s.out := rfl

@[simp] theorem setActive_addr : (s.setActive).addr = s.addr := rfl

@[simp] theorem setActive_zone : (s.setActive).zone = s.zone := rfl

@[simp] theorem setActive_slot : (s.setActive).slot = s.slot := rfl

@[simp] theorem setActive_block : (s.setActive).block = s.block := rfl

@[simp] theorem setActive_offset : (s.setActive).offset = s.offset := rfl

@[simp] theorem setActive_rlen : (s.setActive).rlen = s.rlen := rfl

@[simp] theorem setActive_data : (s.setActive).data = s.data := rfl

@[simp] theorem setActive_prof : (s.setActive).prof = s.prof := rfl

@[simp] theorem setActive_typ : (s.setActive).typ = s.typ := rfl

@[simp] theorem setActive_max : (s.setActive).max = s.max := rfl

@[simp] theorem setActive_n : (s.setActive).n = s.n := rfl

@[simp] theorem setActive_sel : (s.setActive).sel = s.sel := rfl

@[simp] theorem setActive_hostBuf : (s.setActive).hostBuf = s.hostBuf := rfl

@[simp] theorem setActive_times : (s.setActive).times = s.times := rfl

@[simp] theorem setActive_bus : (s.setActive).bus = s.bus := rfl

@[simp] theorem setActive_hostQueue : (s.setActive).hostQueue = s.hostQueue := rfl

@[simp] theorem setDormant_crc : (s.setDormant).crc = s.crc := rfl

@[simp] theorem setDormant_cbuf : (s.setDormant).cbuf = s.cbuf := rfl

@[simp] theorem setDormant_rbuf : (s.setDormant).rbuf = s.rbuf := rfl

@[simp] theorem setDormant_seq : (s.setDormant).seq = s.seq := rfl

@[simp] theorem setDormant_op : (s.setDormant).op = s.op := rfl

@[simp] theorem setDormant_exch : (s.setDormant).exch = s.exch := rfl

@[simp] theorem setDormant_wakeTry : (s.setDormant).wakeTry = s.wakeTry := rfl

@[simp] theorem setDormant_serialTry : (s.setDormant).serialTry = s.serialTry := rfl

@[simp] theorem setDormant_err : (s.setDormant).err = s.err := rfl

@[simp] theorem setDormant_elapsed : (s.setDormant).elapsed = s.elapsed := rfl

@[simp] theorem setDormant_link : (s.setDormant).link = .dormant := rfl

@[simp] theorem setDormant_busy : (s.setDormant).busy = s.busy := rfl

@[simp] theorem setDormant_result : (s.setDormant).result = s.result := rfl

@[simp] theorem setDormant_out : (s.setDormant).out = s.out := rfl

@[simp] theorem setDormant_addr : (s.setDormant).addr = s.addr := rfl

@[simp] theorem setDormant_zone : (s.setDormant).zone = s.zone := rfl

@[simp] theorem setDormant_slot : (s.setDormant).slot = s.slot := rfl

@[simp] theorem setDormant_block : (s.setDormant).block = s.block := rfl

@[simp] theorem setDormant_offset : (s.setDormant).offset = s.offset := rfl

@[simp] theorem setDormant_rlen : (s.setDormant).rlen = s.rlen := rfl

@[simp] theorem setDormant_data : (s.setDormant).data = s.data := rfl

@[simp] theorem setDormant_prof : (s.setDormant).prof = s.prof := rfl

@[simp] theorem setDormant_typ : (s.setDormant).typ = s.typ := rfl

@[simp] theorem setDormant_max : (s.setDormant).max = s.max := rfl

@[simp] theorem setDormant_n : (s.setDormant).n = s.n := rfl

@[simp] theorem setDormant_sel : (s.setDormant).sel = s.sel := rfl

@[simp] theorem setDormant_hostBuf : (s.setDormant).hostBuf = s.hostBuf := rfl

@[simp] theorem setDormant_times : (s.setDormant).times = s.times := rfl

@[simp] theorem setDormant_bus : (s.setDormant).bus = s.bus := rfl

@[simp] theorem setDormant_hostQueue : (s.setDormant).hostQueue = s.hostQueue := rfl

@[simp] theorem failExchange_crc (k : ErrKind) : (s.failExchange k).crc = s.crc := rfl

@[simp] theorem failExchange_cbuf (k : ErrKind) : (s.failExchange k).cbuf = s.cbuf := rfl

@[simp] theorem failExchange_rbuf (k : ErrKind) : (s.failExchange k).rbuf = s.rbuf := rfl

@[simp] theorem failExchange_seq (k : ErrKind) : (s.failExchange k).seq = .xFail := rfl

@[simp] theorem failExchange_op (k : ErrKind) : (s.failExchange k).op = s.op := rfl

@[simp] theorem failExchange_exch (k : ErrKind) : (s.failExchange k).exch = s.exch := rfl

@[simp] theorem failExchange_wakeTry (k : ErrKind) : (s.failExchange k).wakeTry = s.wakeTry := rfl

@[simp] theorem failExchange_serialTry (k : ErrKind) : (s.failExchange k).serialTry = s.serialTry := rfl

@[simp] theorem failExchange_err (k : ErrKind) : (s.failExchange k).err = some k := rfl

@[simp] theorem failExchange_elapsed (k : ErrKind) : (s.failExchange k).elapsed = s.elapsed := rfl

@[simp] theorem failExchange_link (k : ErrKind) : (s.failExchange k).link = s.link := rfl

@[simp] theorem failExchange_busy (k : ErrKind) : (s.failExchange k).busy = s.busy := rfl

@[simp] theorem failExchange_result (k : ErrKind) : (s.failExchange k).result = s.result := rfl

@[simp] theorem failExchange_out (k : ErrKind) : (s.failExchange k).out = s.out := rfl

@[simp] theorem failExchange_addr (k : ErrKind) : (s.failExchange k).addr = s.addr := rfl

@[simp] theorem failExchange_zone (k : ErrKind) : (s.failExchange k).zone = s.zone := rfl

@[simp] theorem failExchange_slot (k : ErrKind) : (s.failExchange k).slot = s.slot := rfl

@[simp] theorem failExchange_block (k : ErrKind) : (s.failExchange k).block = s.block := rfl

@[simp] theorem failExchange_offset (k : ErrKind) : (s.failExchange k).offset = s.offset := rfl

@[simp] theorem failExchange_rlen (k : ErrKind) : (s.failExchange k).rlen = s.rlen := rfl

@[simp] theorem failExchange_data (k : ErrKind) : (s.failExchange k).data = s.data := rfl

@[simp] theorem failExchange_prof (k : ErrKind) : (s.failExchange k).prof = s.prof := rfl

@[simp] theorem failExchange_typ (k : ErrKind) : (s.failExchange k).typ = s.typ := rfl

@[simp] theorem failExchange_max (k : ErrKind) : (s.failExchange k).max = s.max := rfl

@[simp] theorem failExchange_n (k : ErrKind) : (s.failExchange k).n = s.n := rfl

@[simp] theorem failExchange_sel (k : ErrKind) : (s.failExchange k).sel = s.sel := rfl

@[simp] theorem failExchange_hostBuf (k : ErrKind) : (s.failExchange k).hostBuf = s.hostBuf := rfl

@[simp] theorem failExchange_times (k : ErrKind) : (s.failExchange k).times = s.times := rfl

@[simp] theorem failExchange_bus (k : ErrKind) : (s.failExchange k).bus = s.bus := rfl

@[simp] theorem failExchange_hostQueue (k : ErrKind) : (s.failExchange k).hostQueue = s.hostQueue := rfl

@[simp] theorem succeed_crc (bs : List Byte) : (s.succeed bs).crc = s.crc := rfl

@[simp] theorem succeed_cbuf (bs : List Byte) : (s.succeed bs).cbuf = s.cbuf := rfl

@[simp] theorem succeed_rbuf (bs : List Byte) : (s.succeed bs).rbuf = s.rbuf := rfl

@[simp] theorem succeed_seq (bs : List Byte) : (s.succeed bs).seq = .done := rfl

@[simp] theorem succeed_op (bs : List Byte) : (s.succeed bs).op = s.op := rfl

@[simp] theorem succeed_exch (bs : List Byte) : (s.succeed bs).exch = s.exch := rfl

@[simp] theorem succeed_wakeTry (bs : List Byte) : (s.succeed bs).wakeTry = s.wakeTry := rfl

@[simp] theorem succeed_serialTry (bs : List Byte) : (s.succeed bs).serialTry = s.serialTry := rfl

@[simp] theorem succeed_err (bs : List Byte) : (s.succeed bs).err = s.err := rfl

@[simp] theorem succeed_elapsed (bs : List Byte) : (s.succeed bs).elapsed = s.elapsed := rfl

@[simp] theorem succeed_link (bs : List Byte) : (s.succeed bs).link = s.link := rfl

@[simp] theorem succeed_busy (bs : List Byte) : (s.succeed bs).busy = s.busy := rfl

@[simp] theorem succeed_result (bs : List Byte) : (s.succeed bs).result = s.result := rfl

@[simp] theorem succeed_out (bs : List Byte) : (s.succeed bs).out = bs := rfl

@[simp] theorem succeed_addr (bs : List Byte) : (s.succeed bs).addr = s.addr := rfl

@[simp] theorem succeed_zone (bs : List Byte) : (s.succeed bs).zone = s.zone := rfl

@[simp] theorem succeed_slot (bs : List Byte) : (s.succeed bs).slot = s.slot := rfl

@[simp] theorem succeed_block (bs : List Byte) : (s.succeed bs).block = s.block := rfl

@[simp] theorem succeed_offset (bs : List Byte) : (s.succeed bs).offset = s.offset := rfl

@[simp] theorem succeed_rlen (bs : List Byte) : (s.succeed bs).rlen = s.rlen := rfl

@[simp] theorem succeed_data (bs : List Byte) : (s.succeed bs).data = s.data := rfl

@[simp] theorem succeed_prof (bs : List Byte) : (s.succeed bs).prof = s.prof := rfl

@[simp] theorem succeed_typ (bs : List Byte) : (s.succeed bs).typ = s.typ := rfl

@[simp] theorem succeed_max (bs : List Byte) : (s.succeed bs).max = s.max := rfl

@[simp] theorem succeed_n (bs : List Byte) : (s.succeed bs).n = s.n := rfl

@[simp] theorem succeed_sel (bs : List Byte) : (s.succeed bs).sel = s.sel := rfl

@[simp] theorem succeed_hostBuf (bs : List Byte) : (s.succeed bs).hostBuf = s.hostBuf := rfl

@[simp] theorem succeed_times (bs : List Byte) : (s.succeed bs).times = s.times := rfl

@[simp] theorem succeed_bus (bs : List Byte) : (s.succeed bs).bus = s.bus := rfl

@[simp] theorem succeed_hostQueue (bs : List Byte) : (s.succeed bs).hostQueue = s.hostQueue := rfl

@[simp] theorem finish_crc : (s.finish).crc = s.crc := rfl

@[simp] theorem finish_cbuf : (s.finish).cbuf = s.cbuf := rfl

@[simp] theorem finish_rbuf : (s.finish).rbuf = s.rbuf := rfl

@[simp] theorem finish_seq : (s.finish).seq = .idle := rfl

@[simp] theorem finish_op : (s.finish).op = s.op := rfl

@[simp] theorem finish_exch : (s.finish).exch = s.exch := rfl

@[simp] theorem finish_wakeTry : (s.finish).wakeTry = s.wakeTry := rfl

@[simp] theorem finish_serialTry : (s.finish).serialTry = s.serialTry := rfl

@[simp] theorem finish_err : (s.finish).err = s.err := rfl

@[simp] theorem finish_elapsed : (s.finish).elapsed = s.elapsed := rfl

@[simp] theorem finish_link : (s.finish).link = s.link := rfl

@[simp] theorem finish_busy : (s.finish).busy = false := rfl

@[simp] theorem finish_result : (s.finish).result = (match s.err with | none => .ok s.out | some k => .err k) := rfl

@[simp] theorem finish_out : (s.finish).out = s.out := rfl

@[simp] theorem finish_addr : (s.finish).addr = s.addr := rfl

@[simp] theorem finish_zone : (s.finish).zone = s.zone := rfl

@[simp] theorem finish_slot : (s.finish).slot = s.slot := rfl

@[simp] theorem finish_block : (s.finish).block = s.block := rfl

@[simp] theorem finish_offset : (s.finish).offset = s.offset := rfl

@[simp] theorem finish_rlen : (s.finish).rlen = s.rlen := rfl

@[simp] theorem finish_data : (s.finish).data = s.data := rfl

@[simp] theorem finish_prof : (s.finish).prof = s.prof := rfl

@[simp] theorem finish_typ : (s.finish).typ = s.typ := rfl

@[simp] theorem finish_max : (s.finish).max = s.max := rfl

@[simp] theorem finish_n : (s.finish).n = s.n := rfl

@[simp] theorem finish_sel : (s.finish).sel = s.sel := rfl

@[simp] theorem finish_hostBuf : (s.finish).hostBuf = s.hostBuf := rfl

@[simp] theorem finish_times : (s.finish).times = s.times := rfl

@[simp] theorem finish_bus : (s.finish).bus = s.bus := rfl

@[simp] theorem finish_hostQueue : (s.finish).hostQueue = s.hostQueue := rfl

/-- A BusRead's event is recorded whether or not it succeeds (R95). -/
@[simp] theorem busReadInto_bus (a : Addr) (n : Nat) : (s.busReadInto a n).bus = s.bus.read a n := by
  unfold State.busReadInto
  split <;> rfl

/-- On `Ok` the bytes go to `rbuf[0..n)` (R91). -/
theorem busReadInto_rbuf_ok (a : Addr) (n : Nat) (bs : List Byte) (h : s.bus.readRes n = .ok bs) :
    (s.busReadInto a n).rbuf = s.rbuf.writeList 0 bs := by
  simp [State.busReadInto, h]

/-- On `Fail` `rbuf` is unchanged (R91). -/
theorem busReadInto_rbuf_fail (a : Addr) (n : Nat) (h : s.bus.readRes n = .fail) :
    (s.busReadInto a n).rbuf = s.rbuf := by
  simp [State.busReadInto, h]

@[simp] theorem busReadInto_crc (a : Addr) (n : Nat) : (s.busReadInto a n).crc = s.crc := by
  unfold State.busReadInto
  split <;> rfl

@[simp] theorem busReadInto_cbuf (a : Addr) (n : Nat) : (s.busReadInto a n).cbuf = s.cbuf := by
  unfold State.busReadInto
  split <;> rfl

@[simp] theorem busReadInto_seq (a : Addr) (n : Nat) : (s.busReadInto a n).seq = s.seq := by
  unfold State.busReadInto
  split <;> rfl

@[simp] theorem busReadInto_op (a : Addr) (n : Nat) : (s.busReadInto a n).op = s.op := by
  unfold State.busReadInto
  split <;> rfl

@[simp] theorem busReadInto_exch (a : Addr) (n : Nat) : (s.busReadInto a n).exch = s.exch := by
  unfold State.busReadInto
  split <;> rfl

@[simp] theorem busReadInto_wakeTry (a : Addr) (n : Nat) : (s.busReadInto a n).wakeTry = s.wakeTry := by
  unfold State.busReadInto
  split <;> rfl

@[simp] theorem busReadInto_serialTry (a : Addr) (n : Nat) : (s.busReadInto a n).serialTry = s.serialTry := by
  unfold State.busReadInto
  split <;> rfl

@[simp] theorem busReadInto_err (a : Addr) (n : Nat) : (s.busReadInto a n).err = s.err := by
  unfold State.busReadInto
  split <;> rfl

@[simp] theorem busReadInto_elapsed (a : Addr) (n : Nat) : (s.busReadInto a n).elapsed = s.elapsed := by
  unfold State.busReadInto
  split <;> rfl

@[simp] theorem busReadInto_link (a : Addr) (n : Nat) : (s.busReadInto a n).link = s.link := by
  unfold State.busReadInto
  split <;> rfl

@[simp] theorem busReadInto_busy (a : Addr) (n : Nat) : (s.busReadInto a n).busy = s.busy := by
  unfold State.busReadInto
  split <;> rfl

@[simp] theorem busReadInto_result (a : Addr) (n : Nat) : (s.busReadInto a n).result = s.result := by
  unfold State.busReadInto
  split <;> rfl

@[simp] theorem busReadInto_out (a : Addr) (n : Nat) : (s.busReadInto a n).out = s.out := by
  unfold State.busReadInto
  split <;> rfl

@[simp] theorem busReadInto_addr (a : Addr) (n : Nat) : (s.busReadInto a n).addr = s.addr := by
  unfold State.busReadInto
  split <;> rfl

@[simp] theorem busReadInto_zone (a : Addr) (n : Nat) : (s.busReadInto a n).zone = s.zone := by
  unfold State.busReadInto
  split <;> rfl

@[simp] theorem busReadInto_slot (a : Addr) (n : Nat) : (s.busReadInto a n).slot = s.slot := by
  unfold State.busReadInto
  split <;> rfl

@[simp] theorem busReadInto_block (a : Addr) (n : Nat) : (s.busReadInto a n).block = s.block := by
  unfold State.busReadInto
  split <;> rfl

@[simp] theorem busReadInto_offset (a : Addr) (n : Nat) : (s.busReadInto a n).offset = s.offset := by
  unfold State.busReadInto
  split <;> rfl

@[simp] theorem busReadInto_rlen (a : Addr) (n : Nat) : (s.busReadInto a n).rlen = s.rlen := by
  unfold State.busReadInto
  split <;> rfl

@[simp] theorem busReadInto_data (a : Addr) (n : Nat) : (s.busReadInto a n).data = s.data := by
  unfold State.busReadInto
  split <;> rfl

@[simp] theorem busReadInto_prof (a : Addr) (n : Nat) : (s.busReadInto a n).prof = s.prof := by
  unfold State.busReadInto
  split <;> rfl

@[simp] theorem busReadInto_typ (a : Addr) (n : Nat) : (s.busReadInto a n).typ = s.typ := by
  unfold State.busReadInto
  split <;> rfl

@[simp] theorem busReadInto_max (a : Addr) (n : Nat) : (s.busReadInto a n).max = s.max := by
  unfold State.busReadInto
  split <;> rfl

@[simp] theorem busReadInto_n (a : Addr) (n : Nat) : (s.busReadInto a n).n = s.n := by
  unfold State.busReadInto
  split <;> rfl

@[simp] theorem busReadInto_sel (a : Addr) (n : Nat) : (s.busReadInto a n).sel = s.sel := by
  unfold State.busReadInto
  split <;> rfl

@[simp] theorem busReadInto_hostBuf (a : Addr) (n : Nat) : (s.busReadInto a n).hostBuf = s.hostBuf := by
  unfold State.busReadInto
  split <;> rfl

@[simp] theorem busReadInto_times (a : Addr) (n : Nat) : (s.busReadInto a n).times = s.times := by
  unfold State.busReadInto
  split <;> rfl

@[simp] theorem busReadInto_hostQueue (a : Addr) (n : Nat) : (s.busReadInto a n).hostQueue = s.hostQueue := by
  unfold State.busReadInto
  split <;> rfl

end Sys2Proof.Laws
end

