-- ==== Sys2Proof/Laws/Ops.lean ====
section
/-! SUPPORT. What each shared operation can do, said once. -/

namespace Sys2Proof.Laws

open Sys2Proof.Machine

/-! ### The bus -/

section Bus

variable (b : Bus) (a : Addr) (n us : Nat) (bytes : List Byte)

@[simp] theorem bus_write_trace : (b.write a bytes).trace = b.trace ++ [.write a bytes b.writeRes] := rfl

@[simp] theorem bus_write_answers : (b.write a bytes).answers = b.answers.tail := rfl

@[simp] theorem bus_write_ansIdx : (b.write a bytes).ansIdx = b.ansIdx + 1 := rfl

@[simp] theorem bus_read_trace : (b.read a n).trace = b.trace ++ [.read a n (b.readRes n)] := rfl

@[simp] theorem bus_read_answers : (b.read a n).answers = b.answers.tail := rfl

@[simp] theorem bus_read_ansIdx : (b.read a n).ansIdx = b.ansIdx + 1 := rfl

@[simp] theorem bus_delay_trace : (b.delay us).trace = b.trace ++ [.delay us] := rfl

@[simp] theorem bus_delay_answers : (b.delay us).answers = b.answers := rfl

@[simp] theorem bus_delay_ansIdx : (b.delay us).ansIdx = b.ansIdx := rfl

@[simp] theorem bus_bytes_length : (b.bytes n).length = n := by simp [Bus.bytes]

/-- A BusRead that succeeds returns exactly the bytes asked for (R91). -/
theorem bus_readRes_length (bs : List Byte) (h : b.readRes n = .ok bs) : bs.length = n := by
  unfold Bus.readRes at h
  split at h
  · cases h
  · injection h with h
    simp [← h]

/-- The results of a write and of a read depend on the script and the number of the transaction only. -/
theorem bus_writeRes_congr (c : Bus) (h1 : b.answers = c.answers) (h2 : b.ansIdx = c.ansIdx) :
    b.writeRes = c.writeRes := by
  cases b
  cases c
  cases h1
  cases h2
  rfl

theorem bus_readRes_congr (c : Bus) (h1 : b.answers = c.answers) (h2 : b.ansIdx = c.ansIdx) :
    b.readRes n = c.readRes n := by
  cases b
  cases c
  cases h1
  cases h2
  rfl

end Bus

/-! ### Buffers and branching -/

/-- A buffer read that succeeds is inside the capacity and finds every byte written. -/
theorem bufRead_eq_ok (cap : Nat) (m : Memory) (a k : Nat) (bs : List Byte) :
    bufRead cap m a k = .ok bs ↔ a + k ≤ cap ∧ m.slice a k = some bs := by
  unfold bufRead
  split
  · simp; omega
  · split <;> simp [*]; omega

/-- A buffer read that fails names the index or the unwritten byte. -/
theorem bufRead_eq_error (cap : Nat) (m : Memory) (a k : Nat) (f : Fault) :
    bufRead cap m a k = .error f ↔
      (cap < a + k ∧ f = .bufferIndex) ∨ (a + k ≤ cap ∧ m.slice a k = none ∧ f = .unwrittenByte) := by
  unfold bufRead
  split
  · next h => constructor
              · intro e; cases e; exact .inl ⟨h, rfl⟩
              · rintro (⟨-, rfl⟩ | ⟨h', -⟩)
                · rfl
                · omega
  · next h =>
    split
    · next bs hbs => simp [hbs]; omega
    · next hn =>
      constructor
      · intro e; cases e; exact .inr ⟨by omega, hn, rfl⟩
      · rintro (⟨h', -⟩ | ⟨-, -, rfl⟩)
        · omega
        · rfl

theorem withBytes_eq_next (r : Except Fault (List Byte)) (k : List Byte → Out) (t : State) :
    withBytes r k = .next t ↔ ∃ bs, r = .ok bs ∧ k bs = .next t := by
  cases r <;> simp [withBytes]

theorem withBytes_eq_fault (r : Except Fault (List Byte)) (k : List Byte → Out) (f : Fault) :
    withBytes r k = .fault f ↔ r = .error f ∨ ∃ bs, r = .ok bs ∧ k bs = .fault f := by
  cases r <;> simp [withBytes]

@[simp] theorem withBytes_ok (bs : List Byte) (k : List Byte → Out) : withBytes (.ok bs) k = k bs := rfl

/-- At `IDLE` a host command has its effect; elsewhere it is refused. -/
theorem whenIdle_eq (s : State) (r : Out) : whenIdle s r = if s.seq = .idle then r else .refused .hostBusy := by
  unfold whenIdle
  split <;> simp_all

theorem whenIdle_idle (s : State) (r : Out) (h : s.seq = .idle) : whenIdle s r = r := by
  simp [whenIdle_eq, h]

/-- After the frame's bytes are loaded, `cbuf` starts with the word-address byte and them. -/
theorem loadFrame_slice (s : State) (F : List Byte) :
    (s.loadFrame F).cbuf.slice 0 (F.length + 1) = some (waCommandByte :: F) := by
  simpa using Memory.slice_writeList s.cbuf 0 (waCommandByte :: F)

/-- Beyond the frame, `cbuf` keeps its bytes. -/
theorem loadFrame_read_beyond (s : State) (F : List Byte) (x : Nat) (h : F.length + 1 ≤ x) :
    (s.loadFrame F).cbuf.read x = s.cbuf.read x := by
  simp only [loadFrame_cbuf, Memory.read_writeList, List.length_cons]
  rw [if_neg (by omega)]

/-! ### Error entry -/

/-- Where an error leads: a composite command to the clean-up Sleep, a standalone primitive to `DONE`; CHECKSUM
has none (R156, R157). -/
theorem errorEntry_eq (s : State) : s.errorEntry =
    if s.op = .checksum then .fault .noTransition
    else .next { s with seq := if s.op.composite then .sSleep else .done } := by
  unfold State.errorEntry
  cases s.op <;> rfl

/-- `raise` latches the kind and enters the error. -/
theorem raise_eq (s : State) (k : ErrKind) : s.raise k =
    if s.op = .checksum then .fault .noTransition
    else .next { s with err := some k, seq := if s.op.composite then .sSleep else .done } := by
  unfold State.raise
  rw [errorEntry_eq]

/-- What the checksum test does when the command has an exchange (R122): `INTEGRITY`, or the end of a REQUEST, or
the payload step. -/
theorem checkResponse_eq (s : State) (body : List Byte) (crc : Half)
    (h : s.op = .request ∨ s.op.composite = true) : s.checkResponse body crc =
    if crc16 body = crc then
      if s.op = .request then .next { s with crc := crc16 body, out := body.tail, seq := .done }
      else .next { s with crc := crc16 body, seq := .xPayload }
    else .next { s with crc := crc16 body, err := some .integrity, seq := .xFail } := by
  unfold State.checkResponse
  split
  · rcases h with h | h
    · simp [h, State.succeed]
    · cases ho : s.op <;> simp_all [Op.composite]
  · rfl

/-- What a matching signature does when the command has a wake verification (R111). -/
theorem execWakeSignature_eq (s : State) (h : s.op = .wakeup ∨ s.op.composite = true) : execWakeSignature s =
    if s.op = .wakeup then .next { s with link := .active, out := [], seq := .done }
    else .next { s with link := .active, seq := .bBuild } := by
  unfold execWakeSignature
  rcases h with h | h
  · simp [h, State.succeed, State.setActive]
  · cases ho : s.op <;> simp_all [Op.composite, State.setActive]

end Sys2Proof.Laws
end

