-- ==== Sys2Proof/Laws/Words.lean ====
section
/-! SUPPORT. Byte order, checksum placement and validation (spec/30_encoding.md R56; spec/40_checksum.md R81,
R82). -/

namespace Sys2Proof.Laws

open Sys2Proof.Machine

/-- Splitting a 16-bit quantity and joining it again gives it back. -/
@[simp] theorem halfOf_loByte_hiByte (h : Half) : halfOf (loByte h) (hiByte h) = h := by
  apply BitVec.eq_of_getLsbD_eq
  intro i hi
  simp only [halfOf, loByte, hiByte, BitVec.getLsbD_append, BitVec.getLsbD_extractLsb']
  by_cases h8 : i < 8
  · simp [h8]
  · simp [h8, show i - 8 < 8 by omega, show 8 + (i - 8) = i by omega]

@[simp] theorem loByte_halfOf (lo hi : Byte) : loByte (halfOf lo hi) = lo := by
  apply BitVec.eq_of_getLsbD_eq
  intro i h8
  simp only [halfOf, loByte, BitVec.getLsbD_append, BitVec.getLsbD_extractLsb']
  simp [h8]

@[simp] theorem hiByte_halfOf (lo hi : Byte) : hiByte (halfOf lo hi) = hi := by
  apply BitVec.eq_of_getLsbD_eq
  intro i h8
  simp only [halfOf, hiByte, BitVec.getLsbD_append, BitVec.getLsbD_extractLsb']
  simp [h8]

/-- A slot widened to 16 bits has the slot as its low byte and zero as its high byte (R60, R62). -/
@[simp] theorem loByte_zeroExtend (b : Byte) : loByte (b.zeroExtend 16) = b := by
  apply BitVec.eq_of_getLsbD_eq
  intro i hi
  simp [loByte, BitVec.getLsbD_setWidth, hi]
  omega

@[simp] theorem hiByte_zeroExtend (b : Byte) : hiByte (b.zeroExtend 16) = 0 := by
  apply BitVec.eq_of_getLsbD_eq
  intro i hi
  simp [hiByte, BitVec.getLsbD_setWidth]

@[simp] theorem halfBytes_length (h : Half) : (halfBytes h).length = 2 := rfl

@[simp] theorem withChecksum_length (body : List Byte) : (withChecksum body).length = body.length + 2 := by
  simp [withChecksum]

/-- One data bit (spec/40_checksum.md R80). -/
theorem crcBits_cons (c : Half) (d : Bool) (ds : List Bool) : crcBits c (d :: ds) =
    crcBits (if d != c.getLsbD 15 then (c <<< 1) ^^^ crcPoly else c <<< 1) ds := by
  simp only [crcBits]
  split <;> rfl

/-- The bits of one sequence, then those of the other. -/
theorem crcBits_append (c : Half) (A B : List Bool) : crcBits c (A ++ B) = crcBits (crcBits c A) B := by
  induction A generalizing c with
  | nil => rfl
  | cons d A ih => simp only [List.cons_append, crcBits_cons, ih]

/-- The bytes of one sequence, then those of the other. -/
theorem crcFrom_append (c : Half) (A B : List Byte) : crcFrom c (A ++ B) = crcFrom (crcFrom c A) B := by
  simp [crcFrom, dataBits, crcBits_append]

/-- When the covered length is defined, and what it is (R84, R85). -/
theorem coveredLen_eq_some (F : List Byte) (N : Nat) :
    coveredLen F = some N ↔ ∃ count rest, F = count :: rest ∧ count.toNat = N + 2 ∧ N + 1 ≤ rest.length := by
  cases F with
  | nil => simp [coveredLen]
  | cons count rest =>
    simp only [coveredLen, Option.ite_none_right_eq_some, Option.some.injEq]
    constructor
    · rintro ⟨h, rfl⟩
      exact ⟨count, rest, rfl, by omega, by omega⟩
    · rintro ⟨c, r, h, hc, hr⟩
      cases h
      omega

/-- Where CHECKSUM and `checksum_ok` are not defined (R84). -/
theorem coveredLen_eq_none (F : List Byte) :
    coveredLen F = none ↔ F = [] ∨ (F.headD 0).toNat < 2 ∨ F.length < (F.headD 0).toNat := by
  cases F with
  | nil => simp [coveredLen]
  | cons count rest => simp [coveredLen]; omega

/-- `checksum_ok` has no value exactly where the covered length has none (R84). -/
@[simp] theorem checksumOk_eq_none (G : List Byte) : checksumOk G = none ↔ coveredLen G = none := by
  simp [checksumOk]

/-- CHECKSUM leaves nothing exactly where the covered length has no value (R84). -/
@[simp] theorem placeChecksum_eq_none (F : List Byte) : placeChecksum F = none ↔ coveredLen F = none := by
  simp [placeChecksum]

/-- A frame whose count byte is its length carries the checksum `checksum_ok` looks for (R82). -/
theorem checksumOk_withChecksum (count : Byte) (rest : List Byte) (h : count.toNat = rest.length + 3) :
    checksumOk (withChecksum (count :: rest)) = some true := by
  have hc : coveredLen (withChecksum (count :: rest)) = some (count :: rest).length := by
    simp [coveredLen, withChecksum]; omega
  unfold checksumOk
  rw [hc, Option.map_some, withChecksum, List.drop_left' rfl, List.take_left' rfl]
  simp [halfBytes]

/-- What REQUEST accepts (R66, R120; log 6). -/
theorem requestFits_iff (F : List Byte) :
    requestFits F = true ↔ F ≠ [] ∧ 7 ≤ (F.headD 0).toNat ∧ (F.headD 0).toNat ≤ 39 ∧
      ((F.headD 0).toNat ≤ F.length ∨ (F.headD 0).toNat = F.length + 2) := by
  cases F with
  | nil => simp [requestFits]
  | cons count rest => simp [requestFits, and_assoc]

/-- `vec32` of the bytes of a 32-byte register is that register. -/
@[simp] theorem vec32_toList (v : Vector Byte 32) : vec32 v.toList = v := by
  apply Vector.toList_inj.mp
  apply List.ext_getElem
  · simp
  · intro i h1 h2
    have : i < 32 := by simpa using h2
    simp [vec32, Vector.toList, this]

end Sys2Proof.Laws
end

