-- ==== Sys2Proof/Laws/PerInstr.lean ====
section
/-! SUPPORT. Statements made per instruction. `RoundTrip`: a well-formed instruction decodes from its own
encoding (spec/30_encoding.md, sections 1 to 5). -/

namespace Sys2Proof.Laws

open Sys2Proof.Machine

/-- The decoder reads a well-formed instruction back from its encoding. -/
def RoundTrip.Statement (i : Instr) : Prop := WellFormed i = true → decode (encode i) = .ok i

/-- A Command Frame is decoded from its fields: its count and its checksum are accepted. -/
theorem decodeFrame_commandFrame (opcode param1 : Byte) (param2 : Half) (payload : List Byte)
    (h : payload.length ≤ 248) :
    decodeFrame (commandFrame opcode param1 param2 payload) =
      decodeFields opcode param1 (loByte param2) (hiByte param2) payload := by
  have hlen : (frameBody opcode param1 param2 payload).length = payload.length + 5 := rfl
  have hcount : (frameCount payload).toNat = payload.length + 7 := by
    simp [frameCount, BitVec.toNat_ofNat]; omega
  have hrest : commandFrame opcode param1 param2 payload =
      frameCount payload :: opcode :: param1 :: loByte param2 :: hiByte param2 ::
        (payload ++ halfBytes (crc16 (frameBody opcode param1 param2 payload))) := rfl
  have htotal : (commandFrame opcode param1 param2 payload).length = payload.length + 7 := by
    simp [hrest]
  have hbody : (commandFrame opcode param1 param2 payload).take (payload.length + 5) =
      frameBody opcode param1 param2 payload := by
    rw [commandFrame, withChecksum, ← hlen, List.take_left']
    rfl
  have htrail : (commandFrame opcode param1 param2 payload).drop (payload.length + 5) =
      halfBytes (crc16 (frameBody opcode param1 param2 payload)) := by
    rw [commandFrame, withChecksum, ← hlen, List.drop_left']
    rfl
  have hacc : checksumAcceptable (frameBody opcode param1 param2 payload)
      (halfBytes (crc16 (frameBody opcode param1 param2 payload))) = true := by
    simp [checksumAcceptable]
  unfold decodeFrame
  rw [hrest]
  simp only
  rw [← hrest, htotal, hcount, show payload.length + 7 - 2 = payload.length + 5 by omega, hbody, htrail, hacc]
  simp

/-- A response is decoded from its fields. -/
theorem decodeResponse_responseFrame (p : Profile) (payload : List Byte) (crc : Half)
    (h : payload.length = respLen p) :
    decodeResponse p (responseFrame payload crc) = .ok (responseInstr p payload crc) := by
  have hp : respLen p ≤ 64 := by cases p <;> decide
  have hcount : (BitVec.ofNat 8 (payload.length + 3)).toNat = frameLen p := by
    simp [frameLen, h, BitVec.toNat_ofNat]; omega
  simp only [responseFrame, decodeResponse, List.cons_append]
  rw [if_neg (by simp [frameLen, h]), if_neg (by simp [hcount])]
  have h1 : List.take (respLen p) (payload ++ halfBytes crc) = payload := by simp [← h]
  have h2 : (payload ++ halfBytes crc).getD (respLen p) 0 = loByte crc := by
    simp [← h, halfBytes]
  have h3 : (payload ++ halfBytes crc).getD (respLen p + 1) 0 = hiByte crc := by
    simp [← h, halfBytes]
  rw [h1, h2, h3, halfOf_loByte_hiByte]

/-- The zone codes are told apart, with and without the flag of the 32-byte Read (R58). -/
theorem zoneOfCode_zoneByte (zone : Zone) :
    zoneOfCode (zoneByte zone false) = some zone ∧ zoneOfCode (zoneByte zone true) = none ∧
      zoneOfCode (zoneByte zone true - read32Flag) = some zone := by
  cases zone <;> decide

theorem RoundTrip.read4 (zone : Zone) (za : Half) : RoundTrip.Statement (.read4 zone za) := by
  intro _
  simp [encode, decode, readFrame, decodeFrame_commandFrame, decodeFields, (zoneOfCode_zoneByte zone).1]

theorem RoundTrip.read32 (zone : Zone) (za : Half) : RoundTrip.Statement (.read32 zone za) := by
  intro _
  simp [encode, decode, readFrame, decodeFrame_commandFrame, decodeFields, (zoneOfCode_zoneByte zone).2]

theorem RoundTrip.genKey (slot : Byte) : RoundTrip.Statement (.genKey slot) := by
  intro _
  simp [encode, decode, genKeyFrame, decodeFrame_commandFrame, decodeFields, show opGenKey ≠ opRead by decide]

theorem RoundTrip.nonce (data : Vector Byte 32) : RoundTrip.Statement (.nonce data) := by
  intro _
  simp [encode, decode, nonceFrame, decodeFrame_commandFrame, decodeFields, show opNonce ≠ opRead by decide,
    show opNonce ≠ opGenKey by decide]

theorem RoundTrip.sign (slot : Byte) : RoundTrip.Statement (.sign slot) := by
  intro _
  simp [encode, decode, signFrame, decodeFrame_commandFrame, decodeFields, show opSign ≠ opRead by decide,
    show opSign ≠ opGenKey by decide, show opSign ≠ opNonce by decide]

theorem RoundTrip.wakePulse : RoundTrip.Statement .wakePulse := fun _ => by decide

theorem RoundTrip.sleepToken : RoundTrip.Statement .sleepToken := fun _ => by decide

theorem RoundTrip.waCommand : RoundTrip.Statement .waCommand := fun _ => by decide

theorem RoundTrip.wakeSignature : RoundTrip.Statement .wakeSignature := fun _ => by decide

theorem RoundTrip.respRead4 (payload : List Byte) (crc : Half) : RoundTrip.Statement (.respRead4 payload crc) :=
  fun h => decodeResponse_responseFrame .read4 payload crc (by simpa [WellFormed] using h)

theorem RoundTrip.respRead32 (payload : List Byte) (crc : Half) :
    RoundTrip.Statement (.respRead32 payload crc) :=
  fun h => decodeResponse_responseFrame .read32 payload crc (by simpa [WellFormed] using h)

theorem RoundTrip.respGenKey (payload : List Byte) (crc : Half) :
    RoundTrip.Statement (.respGenKey payload crc) :=
  fun h => decodeResponse_responseFrame .genKey payload crc (by simpa [WellFormed] using h)

theorem RoundTrip.respSign (payload : List Byte) (crc : Half) : RoundTrip.Statement (.respSign payload crc) :=
  fun h => decodeResponse_responseFrame .sign payload crc (by simpa [WellFormed] using h)

theorem RoundTrip.respNonce (status : Byte) (crc : Half) : RoundTrip.Statement (.respNonce status crc) :=
  fun _ => decodeResponse_responseFrame .nonce [status] crc rfl

theorem RoundTrip.checksum (F : List Byte) : RoundTrip.Statement (.checksum F) := fun _ => rfl

theorem RoundTrip.pollRead (addr : Addr) (n : Byte) (typ max : Nat) :
    RoundTrip.Statement (.pollRead addr n typ max) := fun _ => rfl

theorem RoundTrip.wakeup (addr : Addr) : RoundTrip.Statement (.wakeup addr) := fun _ => rfl

theorem RoundTrip.sleep (addr : Addr) : RoundTrip.Statement (.sleep addr) := fun _ => rfl

theorem RoundTrip.request (addr : Addr) (prof : Profile) (F : List Byte) :
    RoundTrip.Statement (.request addr prof F) := fun _ => rfl

theorem RoundTrip.readZone (addr : Addr) (zone : Zone) (slot block offset rlen : Byte) :
    RoundTrip.Statement (.readZone addr zone slot block offset rlen) := fun _ => rfl

theorem RoundTrip.readSerial (addr : Addr) : RoundTrip.Statement (.readSerial addr) := fun _ => rfl

theorem RoundTrip.derivePublicKey (addr : Addr) (slot : Byte) :
    RoundTrip.Statement (.derivePublicKey addr slot) := fun _ => rfl

theorem RoundTrip.signCmd (addr : Addr) (slot : Byte) (data : Vector Byte 32) :
    RoundTrip.Statement (.signCmd addr slot data) := fun _ => rfl

theorem RoundTrip.reserved9 : RoundTrip.Statement .reserved9 := fun _ => rfl

theorem RoundTrip.reserved10 : RoundTrip.Statement .reserved10 := fun _ => rfl

theorem RoundTrip.reserved11 : RoundTrip.Statement .reserved11 := fun _ => rfl

theorem RoundTrip.reserved12 : RoundTrip.Statement .reserved12 := fun _ => rfl

theorem RoundTrip.reserved13 : RoundTrip.Statement .reserved13 := fun _ => rfl

theorem RoundTrip.reserved14 : RoundTrip.Statement .reserved14 := fun _ => rfl

theorem RoundTrip.reserved15 : RoundTrip.Statement .reserved15 := fun _ => rfl

end Sys2Proof.Laws
end

