-- ==== Sys2Proof/Laws/Step.lean ====
section
/-! SUPPORT. One step, state by state of the sequencer (spec/10_state.md R14): proofs about `step` split on `seq`
and cite these instead of unfolding `step`. -/

namespace Sys2Proof.Laws

open Sys2Proof.Machine

variable (s : State)

/-- At `IDLE` the head of the host's queue is decoded and run, taken from the queue. -/
theorem step_idle_command (r : CommandRecord) (rest : List CommandRecord) (h : s.seq = .idle)
    (hq : s.hostQueue = r :: rest) : step s = exec (decodeCommand r) { s with hostQueue := rest } := by
  simp [step, fetch, State.packetAt, h, hq, decode]

/-- With no command presented the block waits. -/
theorem step_idle_wait (h : s.seq = .idle) (hq : s.hostQueue = []) : step s = .next s := by
  simp [step, fetch, State.packetAt, h, hq, seqStep]

theorem step_aCheck (h : s.seq = .aCheck) : step s = stepACheck s := by
  simp [step, fetch, State.packetAt, h, seqStep]

theorem step_cRun (h : s.seq = .cRun) : step s = stepCRun s := by
  simp [step, fetch, State.packetAt, h, seqStep]

theorem step_wPulse (h : s.seq = .wPulse) : step s = execWakePulse s := by
  have hd : decode (.token wakePulseByte) = .ok .wakePulse := by decide
  simp [step, fetch, State.packetAt, h, hd, exec]

theorem step_wSettle (h : s.seq = .wSettle) : step s = stepWSettle s := by
  simp [step, fetch, State.packetAt, h, seqStep]

/-- The verification: four bytes are read; the signature is told from anything else, a failed read included. -/
theorem step_wVerify (h : s.seq = .wVerify) : step s =
    if s.bus.readRes 4 = .ok wakeSignatureBytes then execWakeSignature (s.busReadInto s.addr 4)
    else wakeMismatch (s.busReadInto s.addr 4) := by
  simp only [step, fetch, State.packetAt, h]
  split
  · next i t hf =>
    split at hf
    · cases hf
    · next p u hp =>
      split at hp
      · next bytes hr =>
        cases hp
        by_cases hb : bytes = wakeSignatureBytes
        · simp [decode, decodeSignature, hb] at hf
          obtain ⟨rfl, rfl⟩ := hf
          simp [hr, hb, exec]
        · simp [decode, decodeSignature, hb] at hf
      · cases hp
  · next hf =>
    split at hf
    · next hp =>
      split at hp
      · cases hp
      · next hr => simp [hr, seqStep, h]
    · next p u hp =>
      split at hp
      · next bytes hr =>
        cases hp
        by_cases hb : bytes = wakeSignatureBytes
        · simp [decode, decodeSignature, hb] at hf
        · simp [hr, hb, seqStep, h]
      · cases hp

theorem step_wResleep (h : s.seq = .wResleep) : step s = execSleepToken s := by
  have hd : decode (.token waSleep) = .ok .sleepToken := by decide
  simp [step, fetch, State.packetAt, h, hd, exec]

/-- The frame that `B_BUILD` builds decodes to the instruction it stands for. -/
theorem decode_builtFrame (i : Instr) (h : s.builtFrame = some i) : decode (encode i) = .ok i := by
  unfold State.builtFrame at h
  split at h <;> (try split at h) <;> (try cases h)
  · simp [encode, decode, readFrame, decodeFrame_commandFrame, decodeFields, (zoneOfCode_zoneByte s.zone).2]
  · simp [encode, decode, readFrame, decodeFrame_commandFrame, decodeFields, (zoneOfCode_zoneByte s.zone).1]
  · exact RoundTrip.read32 _ _ (by decide)
  · exact RoundTrip.genKey _ rfl
  · exact RoundTrip.sign _ rfl
  · exact RoundTrip.nonce _ rfl

/-- `B_BUILD` runs the frame of the exchange. -/
theorem step_bBuild (h : s.seq = .bBuild) : step s =
    match s.builtFrame with
    | some i => exec i s
    | none => .fault .noTransition := by
  simp only [step, fetch, State.packetAt, h, State.builtPacket]
  cases hb : s.builtFrame with
  | none => simp [seqStep, h]
  | some i => simp [decode_builtFrame s i hb]

theorem step_qCrc (h : s.seq = .qCrc) : step s = stepQCrc s := by
  simp [step, fetch, State.packetAt, h, seqStep]

theorem step_qWrite (h : s.seq = .qWrite) : step s = execWaCommand s := by
  have hd : decode (.token waCommandByte) = .ok .waCommand := by decide
  simp [step, fetch, State.packetAt, h, hd, exec]

theorem step_pWait (h : s.seq = .pWait) : step s = stepPWait s := by
  simp [step, fetch, State.packetAt, h, seqStep]

theorem step_pRead (h : s.seq = .pRead) : step s = stepPRead s := by
  simp [step, fetch, State.packetAt, h, seqStep]

theorem step_pBackoff (h : s.seq = .pBackoff) : step s = stepPBackoff s := by
  simp [step, fetch, State.packetAt, h, seqStep]

theorem step_vLen (h : s.seq = .vLen) : step s = stepVLen s := by
  simp [step, fetch, State.packetAt, h, seqStep]

theorem step_xPayload (h : s.seq = .xPayload) : step s = stepXPayload s := by
  simp [step, fetch, State.packetAt, h, seqStep]

theorem step_xFail (h : s.seq = .xFail) : step s = stepXFail s := by
  simp [step, fetch, State.packetAt, h, seqStep]

theorem step_sSleep (h : s.seq = .sSleep) : step s = execSleepToken s := by
  have hd : decode (.token waSleep) = .ok .sleepToken := by decide
  simp [step, fetch, State.packetAt, h, hd, exec]

theorem step_done (h : s.seq = .done) : step s = stepDone s := by
  simp [step, fetch, State.packetAt, h, seqStep]

/-- Running a response row is the checksum test on its covered region. -/
theorem exec_responseInstr (p : Profile) (payload : List Byte) (crc : Half) (h : payload.length = respLen p) :
    exec (responseInstr p payload crc) s = s.checkResponse (responseBody p payload) crc := by
  cases p with
  | nonce =>
    match payload, h with
    | [b], _ => rfl
  | _ => rfl

/-- `V_CRC` with the count test passed: the checksum test on the bytes in `rbuf`. -/
theorem step_vCrc (h : s.seq = .vCrc) (payload : List Byte) (crc : Half) (hp : payload.length = respLen s.sel)
    (hr : s.rbuf.slice 0 (frameLen s.sel) = some (responseFrame payload crc)) :
    step s = s.checkResponse (responseBody s.sel payload) crc := by
  have hcap : frameLen s.sel ≤ rspBufCap := by cases s.sel <;> decide
  have hread : s.rbufRead 0 (frameLen s.sel) = .ok (responseFrame payload crc) :=
    (bufRead_eq_ok _ _ _ _ _).2 ⟨by omega, hr⟩
  simp [step, fetch, State.packetAt, h, State.responsePacket, hread, decode,
    decodeResponse_responseFrame _ _ _ hp, exec_responseInstr _ _ _ _ hp]

/-- The step that runs an instruction is the instruction's own meaning. -/
theorem step_of_fetch (i : Instr) (t : State) (h : fetch s = some (i, t)) : step s = exec i t := by
  simp [step, h]

end Sys2Proof.Laws
end

