-- ==== Sys2Proof/Tests/Slice0.lean ====
section
/-! SUPPORT. Tests: expected values are those of spec/95_test_vectors.md (S1 to S10, V1 to V9) or read off the rule
named; and for every statement with hypotheses a state and operands that meet them. -/

namespace Sys2Proof.Tests

-- One theorem at a time: each kernel check in its own thread would need more threads than the sandbox has.
set_option Elab.async false

open Sys2Proof.Machine

/-! ### Helpers -/

/-- A command running at `q` with device address 0x60, typical time 2000 and maximum 5000 (95_test_vectors.md). -/
def busyAt (q : Seq) (op : Op) : State :=
  { State.reset with
    seq := q, op := op, busy := true, addr := 0x60,
    times := ⟨⟨2000, 5000⟩, ⟨2000, 5000⟩, ⟨2000, 5000⟩, ⟨2000, 5000⟩, ⟨2000, 5000⟩⟩ }

/-- The block at `IDLE`, the same times. -/
def idleState : State := { busyAt .idle .checksum with busy := false }

/-- The bus's next answers. -/
def answering (answers : List Answer) (s : State) : State := { s with bus := { s.bus with answers := answers } }

/-- Bytes written to the start of `cbuf`. -/
def withCbuf (bytes : List Byte) (s : State) : State := { s with cbuf := s.cbuf.writeList 0 bytes }

/-- Bytes written to the start of `rbuf`. -/
def withRbuf (bytes : List Byte) (s : State) : State := { s with rbuf := s.rbuf.writeList 0 bytes }

/-- The wake signature as an answer. -/
def signatureAnswer : Answer := .ok [0x04, 0x11, 0x33, 0x43]

/-- The outcome is a next state with this property. -/
def next (o : Out) (p : State → Bool) : Bool :=
  match o with
  | .next t => p t
  | .fault _ => false
  | .refused _ => false

/-- The outcome is this refusal. -/
def refuses (o : Out) (r : Refusal) : Bool :=
  match o with
  | .next _ => false
  | .fault _ => false
  | .refused r' => r' == r

/-- The decoder's answer. -/
def decoded (p : Packet) : Option Instr :=
  match decode p with
  | .ok i => some i
  | .error _ => none

/-- Why the decoder refuses. -/
def rejected (p : Packet) : Option Reject :=
  match decode p with
  | .ok _ => none
  | .error e => some e

/-- A command accepted and run to `IDLE`. -/
def runEnd (i : Instr) (s : State) : Option State :=
  match exec i s with
  | .next t => toIdle 40 t
  | .fault _ => none
  | .refused _ => none

/-- What `runEnd` answers is a run. -/
theorem runs_of_runEnd (i : Instr) (s u : State) (h : runEnd i s = some u) : Runs i s u := by
  unfold runEnd at h
  split at h
  · next t ht => exact ⟨t, 40, ht, h⟩
  · cases h
  · cases h

/-- A run exists whose end has a property that `runEnd` shows. -/
theorem run_exists (i : Instr) (s : State) (p : State → Bool) (h : (runEnd i s).any p = true) :
    ∃ u, Runs i s u ∧ p u = true := by
  cases hr : runEnd i s with
  | none => simp [hr] at h
  | some u => exact ⟨u, runs_of_runEnd i s u hr, by simpa [hr] using h⟩

/-- The outcome is a next state. -/
theorem next_exists (s : State) (p : State → Bool) (h : next (step s) p = true) :
    ∃ t, step s = .next t ∧ p t = true := by
  unfold next at h
  split at h
  · next t ht => exact ⟨t, ht, h⟩
  · cases h
  · cases h

/-! ### WellFormed: an ill-formed term for each check -/

theorem test_wellFormed_config_address : WellFormed (.read4 .config 2048) = false := by decide +kernel
theorem test_wellFormed_otp_address : WellFormed (.read32 .otp 0xFFFF) = false := by decide +kernel
theorem test_wellFormed_largest_addresses :
    WellFormed (.read4 .config 2047) = true ∧ WellFormed (.read32 .data 0xFFFF) = true := by decide +kernel
theorem test_wellFormed_respRead4_payload : WellFormed (.respRead4 [1, 2, 3] 0) = false := by decide +kernel
theorem test_wellFormed_respRead32_payload : WellFormed (.respRead32 (List.replicate 33 0) 0) = false := by decide +kernel
theorem test_wellFormed_respGenKey_payload : WellFormed (.respGenKey (List.replicate 63 0) 0) = false := by decide +kernel
theorem test_wellFormed_respSign_payload : WellFormed (.respSign [] 0) = false := by decide +kernel
/-- 95_test_vectors.md V2: a count below 2, or beyond the bytes given. -/
theorem test_wellFormed_checksum :
    WellFormed (.checksum [0x01, 0, 0]) = false ∧ WellFormed (.checksum [0x00]) = false ∧
      WellFormed (.checksum [0x05, 0x01, 0x02]) = false ∧ WellFormed (.checksum []) = false := by decide +kernel
/-- 30_encoding.md R66. -/
theorem test_wellFormed_pollRead :
    WellFormed (.pollRead 0x60 0 0 0) = false ∧ WellFormed (.pollRead 0x60 68 0 0) = false := by decide +kernel
/-- 30_encoding.md R66. -/
theorem test_wellFormed_request :
    WellFormed (.request 0x60 .read4 [6, 2, 0, 0, 0, 0]) = false ∧
      WellFormed (.request 0x60 .nonce (40 :: List.replicate 39 0)) = false ∧
      WellFormed (.request 0x60 .read4 [7, 2, 0, 0]) = false ∧
      WellFormed (.request 0x60 .read4 [7, 2, 0, 0, 0, 0]) = false ∧
      WellFormed (.request 0x60 .read4 [7, 2, 0, 0, 0]) = true ∧
      WellFormed (.request 0x60 .read4 [7, 2, 0, 0, 0, 0, 0]) = true := by decide +kernel

/-! ### The decoder, on words written out from 30_encoding.md and 95_test_vectors.md V3 to V5 -/

theorem test_decode_read4 : decoded (.frame [0x07, 0x02, 0x00, 0x13, 0x00, 0x12, 0x9D]) =
    some (.read4 .config 0x0013) := by decide +kernel
theorem test_decode_read4_otp : decoded (.frame [0x07, 0x02, 0x01, 0x0A, 0x00, 0x18, 0xC7]) =
    some (.read4 .otp 0x000A) := by decide +kernel
theorem test_decode_read32 : decoded (.frame [0x07, 0x02, 0x82, 0xFF, 0x06, 0x45, 0xAB]) =
    some (.read32 .data 0x06FF) := by decide +kernel
theorem test_decode_genKey : decoded (.frame [0x07, 0x40, 0x00, 0x04, 0x00, 0x03, 0x45]) =
    some (.genKey 4) := by decide +kernel
theorem test_decode_nonce : decoded (.frame ([0x27, 0x16, 0x03, 0x00, 0x00] ++ List.replicate 32 0xFF ++
    [0xE2, 0x38])) = some (.nonce (Vector.replicate 32 0xFF)) := by decide +kernel
theorem test_decode_sign : decoded (.frame [0x07, 0x41, 0x80, 0x0F, 0x00, 0x27, 0xA5]) =
    some (.sign 15) := by decide +kernel
theorem test_decode_tokens : decoded (.token 0x00) = some .wakePulse ∧ decoded (.token 0x01) = some .sleepToken ∧
    decoded (.token 0x03) = some .waCommand ∧ rejected (.token 0x02) = some .badToken := by decide +kernel
theorem test_decode_signature : decoded (.signature [0x04, 0x11, 0x33, 0x43]) = some .wakeSignature ∧
    rejected (.signature [0x04, 0x11, 0x33, 0x42]) = some .badSignature := by decide +kernel
theorem test_decode_respRead4 : decoded (.response .read4 [0x07, 0x11, 0x22, 0x33, 0x44, 0xAC, 0x20]) =
    some (.respRead4 [0x11, 0x22, 0x33, 0x44] 0x20AC) := by decide +kernel
theorem test_decode_respRead32 : decoded (.response .read32
    (0x23 :: ([0xAA, 0xBB, 0xCC, 0xDD, 0, 0, 0, 0, 1, 2, 3, 4, 5] ++ List.replicate 19 0) ++ [0xF2, 0xBC])) =
    some (.respRead32 ([0xAA, 0xBB, 0xCC, 0xDD, 0, 0, 0, 0, 1, 2, 3, 4, 5] ++ List.replicate 19 0) 0xBCF2) := by decide +kernel
theorem test_decode_respGenKey : decoded (.response .genKey (0x43 :: List.replicate 64 0x55 ++ [0x01, 0x02])) =
    some (.respGenKey (List.replicate 64 0x55) 0x0201) := by decide +kernel
theorem test_decode_respSign : decoded (.response .sign (0x43 :: List.replicate 64 0x55 ++ [0x01, 0x02])) =
    some (.respSign (List.replicate 64 0x55) 0x0201) := by decide +kernel
theorem test_decode_respNonce : decoded (.response .nonce [0x04, 0x0F, 0x23, 0x42]) =
    some (.respNonce 0x0F 0x4223) := by decide +kernel
/-- The select codes of 30_encoding.md R64 with the operands of R65. -/
theorem test_decode_primitives :
    decoded (.command { blankRecord 0 with F := [2, 0] }) = some (.checksum [2, 0]) ∧
    decoded (.command { blankRecord 1 with addr := 0x60, n := 7, typ := 2000, max := 5000 }) =
      some (.pollRead 0x60 7 2000 5000) ∧
    decoded (.command { blankRecord 2 with addr := 0x60 }) = some (.wakeup 0x60) ∧
    decoded (.command { blankRecord 3 with addr := 0x60 }) = some (.sleep 0x60) ∧
    decoded (.command { blankRecord 4 with addr := 0x60, prof := .sign, F := [7, 2, 0, 0x13, 0] }) =
      some (.request 0x60 .sign [7, 2, 0, 0x13, 0]) := by decide +kernel
theorem test_decode_composites :
    decoded (.command { blankRecord 5 with
      addr := 0x60, zone := .data, slot := 4, block := 1, offset := 3, rlen := 32 }) =
      some (.readZone 0x60 .data 4 1 3 32) ∧
    decoded (.command { blankRecord 6 with addr := 0x60 }) = some (.readSerial 0x60) ∧
    decoded (.command { blankRecord 7 with addr := 0x60, slot := 4 }) = some (.derivePublicKey 0x60 4) ∧
    decoded (.command { blankRecord 8 with addr := 0x60, slot := 9, data := Vector.replicate 32 7 }) =
      some (.signCmd 0x60 9 (Vector.replicate 32 7)) := by decide +kernel
theorem test_decode_reserved :
    decoded (.command (blankRecord 9)) = some .reserved9 ∧ decoded (.command (blankRecord 10)) = some .reserved10 ∧
    decoded (.command (blankRecord 11)) = some .reserved11 ∧ decoded (.command (blankRecord 12)) = some .reserved12 ∧
    decoded (.command (blankRecord 13)) = some .reserved13 ∧ decoded (.command (blankRecord 14)) = some .reserved14 ∧
    decoded (.command (blankRecord 15)) = some .reserved15 := by decide +kernel
/-- What 30_encoding.md gives no frame for: zone code 3, an unlisted opcode, a wrong mode, a wrong count, a wrong
checksum, a payload where there is none. -/
theorem test_decode_rejects :
    rejected (.frame [0x07, 0x02, 0x03, 0x00, 0x00, 0x00, 0x00]) = some .reservedZone ∧
    rejected (.frame [0x07, 0x02, 0x04, 0x00, 0x00, 0x00, 0x00]) = some .reservedZone ∧
    rejected (.frame [0x07, 0x03, 0x00, 0x00, 0x00, 0x00, 0x00]) = some .badOpcode ∧
    rejected (.frame [0x07, 0x40, 0x01, 0x00, 0x00, 0x00, 0x00]) = some .badParam ∧
    rejected (.frame [0x08, 0x40, 0x00, 0x00, 0x00, 0x00, 0x00]) = some .badCount ∧
    rejected (.frame [0x07, 0x02, 0x80, 0x00, 0x00, 0x09, 0xAC]) = some .badChecksum ∧
    rejected (.frame [0x08, 0x41, 0x80, 0x00, 0x00, 0x00, 0x00, 0x00]) = some .badLength ∧
    rejected (.response .read4 [0x08, 0x11, 0x22, 0x33, 0x44, 0xAC, 0x20]) = some .badCount := by decide +kernel
/-- The numbers of spec/opcode_table.json (R71). -/
theorem test_decode_table_words :
    decodeTableWord 24 0x070200 = some (.read4 .config 0) ∧ decodeTableWord 24 0x070280 = some (.read32 .config 0) ∧
    decodeTableWord 24 0x074000 = some (.genKey 0) ∧
    decodeTableWord 24 0x271603 = some (.nonce (Vector.replicate 32 0)) ∧
    decodeTableWord 24 0x074180 = some (.sign 0) ∧ decodeTableWord 32 0x04113343 = some .wakeSignature ∧
    decodeTableWord 8 0x2 = some (.wakeup 0) ∧ decodeTableWord 8 0xF = some .reserved15 ∧
    decodeTableWord 24 0x070203 = none := by decide +kernel

/-! ### The Checksum Engine: 95_test_vectors.md V1, V2, S1 -/

theorem test_crc16_short : crc16 [] = 0x0000 ∧ crc16 [0x00] = 0x0000 ∧ crc16 [0x01] = 0x8303 ∧
    crc16 [0x02] = 0x8183 ∧ crc16 [0x80] = 0x8005 ∧ crc16 [0xFF] = 0x0202 ∧ crc16 [0xFF, 0xFF] = 0x800D := by decide +kernel
theorem test_crc16_long : crc16 [0x04, 0x11] = 0x4333 ∧ crc16 [0x04, 0x00] = 0x4003 ∧
    crc16 [0x07, 0x02, 0x80, 0x00, 0x00] = 0xAD09 ∧
    crc16 [0x31, 0x32, 0x33, 0x34, 0x35, 0x36, 0x37, 0x38, 0x39] = 0xBCDD ∧
    crc16 (0x23 :: List.replicate 32 0) = 0xACB3 := by decide +kernel
theorem test_placeChecksum : placeChecksum [0x07, 0x02, 0x80, 0x00, 0x00, 0x5A, 0x5A] =
      some [0x07, 0x02, 0x80, 0x00, 0x00, 0x09, 0xAD] ∧
    placeChecksum [0x04, 0x00, 0x5A, 0x5A, 0x99, 0x99] = some [0x04, 0x00, 0x03, 0x40, 0x99, 0x99] ∧
    placeChecksum [0x02, 0x5A] = some [0x00, 0x00] ∧ placeChecksum [0x01, 0x5A, 0x5A] = none := by decide +kernel
theorem test_checksumOk : checksumOk [0x04, 0x00, 0x03, 0x40] = some true ∧
    checksumOk [0x04, 0x00, 0x03, 0x41] = some false ∧ checksumOk [0x04, 0x00, 0x02, 0x40] = some false ∧
    checksumOk [0x04, 0x01, 0x03, 0x40] = some false ∧
    checksumOk [0x07, 0x11, 0x22, 0x33, 0x44, 0xAC, 0x20] = some true := by decide +kernel
/-- R84: no value for a count below 2, or beyond the bytes given. -/
theorem test_checksumOk_undefined : checksumOk [0x00, 0x00] = none ∧ checksumOk [0x01, 0x00, 0x00] = none ∧
    checksumOk [0x05, 0x00, 0x03, 0x40] = none ∧ checksumOk [] = none := by decide +kernel
theorem test_zoneAddress : zoneAddress .config 0 2 3 = 19 ∧ zoneAddress .data 4 1 0 = 288 ∧
    zoneAddress .config 0 0 11 = 3 ∧ zoneAddress .otp 9 1 2 = 10 ∧ zoneAddress .data 255 255 7 = 0x06FF ∧
    zoneAddress .data 32 255 0 = 0 ∧ zoneAddress .config 0 255 7 = 0x07FF := by decide +kernel

/-! ### One step of each instruction -/

/-- V3, V4: the transmitted bytes. -/
theorem test_read4 : next (exec (.read4 .data 0x0120) (busyAt .bBuild .readZone)) (fun t =>
    t.cbuf.slice 0 8 == some [0x03, 0x07, 0x02, 0x02, 0x20, 0x01, 0x1D, 0xB3] && t.sel == .read4 &&
      t.seq == .qCrc) = true := by decide +kernel
theorem test_read32 : next (exec (.read32 .data 0x0120) (busyAt .bBuild .readZone)) (fun t =>
    t.cbuf.slice 0 8 == some [0x03, 0x07, 0x02, 0x82, 0x20, 0x01, 0x0A, 0x33] && t.sel == .read32) = true := by decide +kernel
theorem test_genKey : next (exec (.genKey 255) (busyAt .bBuild .derivePublicKey)) (fun t =>
    t.cbuf.slice 0 8 == some [0x03, 0x07, 0x40, 0x00, 0xFF, 0x00, 0x0F, 0x87] && t.sel == .genKey) = true := by decide +kernel
theorem test_nonce : next (exec (.nonce (Vector.replicate 32 0)) (busyAt .bBuild .sign)) (fun t =>
    t.cbuf.slice 0 6 == some [0x03, 0x27, 0x16, 0x03, 0x00, 0x00] && t.cbuf.slice 37 3 == some [0x00, 0xC7, 0xB8] &&
      t.cbuf.length == 40 && t.sel == .nonce) = true := by decide +kernel
theorem test_sign : next (exec (.sign 4) (busyAt .bBuild .sign)) (fun t =>
    t.cbuf.slice 0 8 == some [0x03, 0x07, 0x41, 0x80, 0x04, 0x00, 0x2B, 0x45] && t.sel == .sign) = true := by decide +kernel
/-- V7: the failed pulse write changes nothing. -/
theorem test_wakePulse : next (exec .wakePulse (answering [.fail] (busyAt .wPulse .wakeup))) (fun t =>
    t.bus.trace == [.write 0x00 [0x00] .fail] && t.seq == .wSettle && t.err == none) = true := by decide +kernel
/-- V7: a standalone SLEEP whose write fails. -/
theorem test_sleepToken_fail : next (exec .sleepToken (answering [.fail]
    { busyAt .sSleep .sleep with link := .active })) (fun t =>
    t.err == some .io && t.link == .dormant && t.seq == .done) = true := by decide +kernel
/-- V9: the clean-up Sleep of a composite command. -/
theorem test_sleepToken_composite : next (exec .sleepToken (answering [.fail] (busyAt .sSleep .sign))) (fun t =>
    t.err == none && t.seq == .done) = true := by decide +kernel
/-- V8, first row. -/
theorem test_waCommand : next (exec .waCommand (answering [.fail]
    (withCbuf [0x03, 0x07, 0x02, 0x00, 0x13, 0x00, 0x12, 0x9D] (busyAt .qWrite .request)))) (fun t =>
    t.bus.trace == [.write 0x60 [0x03, 0x07, 0x02, 0x00, 0x13, 0x00, 0x12, 0x9D] .fail] && t.err == some .io &&
      t.seq == .xFail) = true := by decide +kernel
/-- S3. -/
theorem test_wakeSignature : next (step (answering [signatureAnswer] (busyAt .wVerify .wakeup))) (fun t =>
    t.link == .active && t.seq == .done && t.rbuf.slice 0 4 == some [0x04, 0x11, 0x33, 0x43]) = true := by decide +kernel
/-- S3: one bit away from the signature, on the second attempt. -/
theorem test_wakeSignature_mismatch : next (step (answering [.ok [0x04, 0x11, 0x33, 0x42]]
    { busyAt .wVerify .wakeup with wakeTry := true })) (fun t =>
    t.link == .dormant && t.err == some .deviceUnavailable && t.seq == .done) = true := by decide +kernel
/-- V8: a good response, and one whose checksum is off by one bit. -/
theorem test_respRead4 : next (step (withRbuf [0x07, 0x11, 0x22, 0x33, 0x44, 0xAC, 0x20] (busyAt .vCrc .request)))
    (fun t => t.out == [0x11, 0x22, 0x33, 0x44] && t.seq == .done) = true := by decide +kernel
theorem test_respRead4_integrity : next (step (withRbuf [0x07, 0x11, 0x22, 0x33, 0x44, 0xAC, 0x21]
    (busyAt .vCrc .request))) (fun t => t.err == some .integrity && t.seq == .xFail) = true := by decide +kernel
/-- S4. -/
theorem test_respRead32 : next (exec (.respRead32
    ([0xAA, 0xBB, 0xCC, 0xDD, 0, 0, 0, 0, 1, 2, 3, 4, 5] ++ List.replicate 19 0) 0xBCF2) (busyAt .vCrc .readSerial))
    (fun t => t.crc == 0xBCF2 && t.seq == .xPayload) = true := by decide +kernel
/-- S5: payload 40 41 .. 7F, checksum 0xA26A. -/
theorem test_respGenKey : next (exec (.respGenKey ((List.range 64).map (fun k => BitVec.ofNat 8 (0x40 + k))) 0xA26A)
    (busyAt .vCrc .derivePublicKey)) (fun t => t.seq == .xPayload) = true := by decide +kernel
/-- V5: payload A0 A1 .. DF, checksum 0x7D25. -/
theorem test_respSign : next (exec (.respSign ((List.range 64).map (fun k => BitVec.ofNat 8 (0xA0 + k))) 0x7D25)
    (busyAt .vCrc .sign)) (fun t => t.seq == .xPayload) = true := by decide +kernel
/-- V5: a status other than 0 passes the checksum test; the payload step then finds `PROTOCOL`. -/
theorem test_respNonce : next (exec (.respNonce 0x0F 0x4223) (busyAt .vCrc .sign)) (fun t => t.seq == .xPayload) = true ∧
    next (step (withRbuf [0x04, 0x0F, 0x23, 0x42] { busyAt .xPayload .sign with sel := .nonce })) (fun t =>
      t.err == some .protocol && t.seq == .sSleep) = true := by decide +kernel
/-- V2, second row. -/
theorem test_checksum : next (step { busyAt .cRun .checksum with hostBuf := [0x04, 0x11, 0x5A, 0x5A] }) (fun t =>
    t.hostBuf == [0x04, 0x11, 0x33, 0x43] && t.out == [0x33, 0x43] && t.crc == 0x4333 && t.seq == .done) = true := by
  decide +kernel
theorem test_checksum_refused : refuses (exec (.checksum [0x05, 0x01, 0x02]) idleState) .checksumCount = true := by
  decide +kernel
/-- V6: the delay is made before the comparison, which is strict. -/
theorem test_pollRead : next (step { busyAt .pBackoff .pollRead with elapsed := 2000, max := 3000, n := 7 }) (fun t =>
      t.elapsed == 3000 && t.seq == .pRead) = true ∧
    next (step { busyAt .pBackoff .pollRead with elapsed := 2000, max := 2999, n := 7 }) (fun t =>
      t.err == some .timeout && t.seq == .done) = true := by decide +kernel
theorem test_pollRead_refused : refuses (exec (.pollRead 0x60 68 0 0) idleState) .pollLength = true := by decide +kernel
theorem test_wakeup : next (exec (.wakeup 0x60) { idleState with err := some .io, wakeTry := true, addr := 0 })
    (fun t => t.seq == .wPulse && t.err == none && !t.wakeTry && t.addr == 0x60 && t.busy) = true := by decide +kernel
theorem test_sleep : next (exec (.sleep 0x60) idleState) (fun t => t.seq == .sSleep && t.op == .sleep) = true := by decide +kernel
/-- V8: the frame without its checksum, which `Q_CRC` places. -/
theorem test_request : next (exec (.request 0x60 .read4 [0x07, 0x02, 0x00, 0x13, 0x00]) idleState) (fun t =>
    t.sel == .read4 && next (step t) (fun u =>
      u.cbuf.slice 0 8 == some [0x03, 0x07, 0x02, 0x00, 0x13, 0x00, 0x12, 0x9D] && u.seq == .qWrite)) = true := by decide +kernel
theorem test_request_refused : refuses (exec (.request 0x60 .read4 [0x07, 0x02, 0x00, 0x13]) idleState)
    .requestCount = true := by decide +kernel
/-- V9, first row. -/
theorem test_readZone : next (exec (.readZone 0x60 .config 0 0 0 16) idleState) (fun t =>
    next (step t) (fun u => u.err == some .invalidArgument && u.seq == .done && u.bus.trace == [])) = true := by decide +kernel
/-- S4: bytes [0..4) and [8..13); V9: the first failed exchange is repeated. -/
theorem test_readSerial : next (step (withRbuf (0x23 :: (List.range 34).map (fun k => BitVec.ofNat 8 (0x80 + k)))
      { busyAt .xPayload .readSerial with sel := .read32 })) (fun t =>
      t.out == [0x80, 0x81, 0x82, 0x83, 0x88, 0x89, 0x8A, 0x8B, 0x8C] && t.seq == .sSleep) = true ∧
    next (step { busyAt .xFail .readSerial with err := some .io }) (fun t =>
      t.err == none && t.serialTry && t.seq == .bBuild) = true := by decide +kernel
theorem test_derivePublicKey : next (exec (.derivePublicKey 0x60 4) idleState) (fun t =>
    t.seq == .aCheck && t.slot == 4 && t.op == .derivePublicKey) = true := by decide +kernel
/-- R134: status 0 leads to the Sign exchange. -/
theorem test_signCmd : next (step (withRbuf [0x04, 0x00, 0x03, 0x40] { busyAt .xPayload .sign with sel := .nonce }))
    (fun t => t.exch && t.seq == .bBuild && t.bus.trace == []) = true := by decide +kernel
theorem test_reserved : refuses (exec .reserved9 idleState) (.reservedSelect 9) = true ∧
    refuses (exec .reserved15 idleState) (.reservedSelect 15) = true ∧
    refuses (exec (.wakeup 0x60) (busyAt .pRead .sign)) .hostBusy = true := by decide +kernel

/-! ### A state and operands for the hypotheses of every statement that has some -/

/-- A record for the queue. -/
def wakeupRecord : CommandRecord := { blankRecord 2 with addr := 0x60 }

theorem test_witness_DecodeReadsBackEncode : WellFormed (.read4 .config 2047) = true := by decide +kernel
theorem test_witness_DecodedBytesAreTheirEncoding_frame :
    decode (.frame [0x07, 0x40, 0x00, 0xFF, 0x00, 0x0F, 0x87]) = .ok (.genKey 0xFF) := by decide +kernel
theorem test_witness_DecodedBytesAreTheirEncoding_response :
    decode (.response .nonce [0x04, 0x0F, 0x23, 0x42]) = .ok (.respNonce 0x0F 0x4223) := by decide +kernel
theorem test_witness_SingleByteChangeChangesChecksum : (0x48 : Byte) ≠ 0x49 := by decide +kernel
theorem test_witness_ChecksumIsXorLinear : ([0x01, 0x02] : List Byte).length = ([0xFF, 0x80] : List Byte).length := by
  decide +kernel
theorem test_witness_PlacedChecksumValidates :
    3 ≤ (0x03 : Byte).toNat ∧ (0x03 : Byte).toNat ≤ ([0x5A, 0x5A] : List Byte).length + 1 := by decide +kernel
theorem test_witness_SleepTokenWritesOneAndSetsDormant :
    (busyAt .wResleep .wakeup).seq = .wResleep ∧
    ((busyAt .sSleep .sleep).seq ≠ .wResleep ∧ (busyAt .sSleep .sleep).op = .sleep ∧
      (answering [.ok []] (busyAt .sSleep .sleep)).bus.writeRes = .ok ∧
      (answering [.fail] (busyAt .sSleep .sleep)).bus.writeRes = .fail) ∧
    ((busyAt .sSleep .sign).seq ≠ .wResleep ∧ (busyAt .sSleep .sign).op ≠ .sleep) := by decide +kernel
/-- The least and the greatest frame. -/
theorem test_witness_WaCommandWritesTransmittedBuffer :
    (let s := answering [.ok []] (withCbuf [0x03, 0x07, 2, 0, 0x13, 0, 0x12, 0x9D] (busyAt .qWrite .request))
     s.cbuf.read 1 = some 0x07 ∧ s.cbuf.slice 0 8 = some [0x03, 0x07, 2, 0, 0x13, 0, 0x12, 0x9D] ∧
       s.bus.writeRes = .ok) ∧
    (let s := answering [.fail] (withCbuf (0x03 :: 0x27 :: List.replicate 38 0) (busyAt .qWrite .sign))
     s.cbuf.read 1 = some 0x27 ∧ (0x27 : Byte).toNat ≤ 39 ∧
       s.cbuf.slice 0 40 = some (0x03 :: 0x27 :: List.replicate 38 0) ∧ s.bus.writeRes = .fail) := by decide +kernel
theorem test_witness_WakeSignatureSetsActive :
    (busyAt .wVerify .wakeup).op = .wakeup ∧ (busyAt .wVerify .readSerial).op.composite = true := by decide +kernel
/-- The three clauses, with the response 04 00 03 40 and with one whose checksum is off by one. -/
theorem test_witness_ResponsesPassTheChecksumTest :
    ([0x00] : List Byte).length = respLen .nonce ∧
    crc16 (BitVec.ofNat 8 (respLen .nonce + 3) :: [0x00]) = 0x4003 ∧ (busyAt .vCrc .request).op = .request ∧
    (busyAt .vCrc .sign).op.composite = true ∧
    crc16 (BitVec.ofNat 8 (respLen .nonce + 3) :: [0x00]) ≠ 0x4103 := by decide +kernel
theorem test_witness_CommandsAreAcceptedAtIdle : idleState.seq = .idle := by decide +kernel
/-- Both ends of each range. -/
theorem test_witness_RestrictedCommandsAreAcceptedAtIdle : idleState.seq = .idle ∧
    (2 ≤ (0x02 : Byte).toNat ∧ (0x02 : Byte).toNat ≤ ([0x5A] : List Byte).length + 1) ∧
    (1 ≤ (1 : Byte).toNat ∧ (67 : Byte).toNat ≤ 67) ∧
    (7 ≤ (7 : Byte).toNat ∧ (39 : Byte).toNat ≤ 39 ∧ (7 : Byte).toNat = ([2, 0, 0x13, 0] : List Byte).length + 3 ∧
      (39 : Byte).toNat ≤ (List.replicate 38 (0 : Byte)).length + 1) := by
  decide +kernel
/-- Every clause of every refusal, at the values next to the accepted range. -/
theorem test_witness_UndefinedOperandsAreRefused : idleState.seq = .idle ∧
    refuses (exec (.checksum []) idleState) .checksumCount = true ∧
    refuses (exec (.checksum [1, 0, 0]) idleState) .checksumCount = true ∧
    refuses (exec (.checksum [3, 0]) idleState) .checksumCount = true ∧
    refuses (exec (.pollRead 0x60 0 0 0) idleState) .pollLength = true ∧
    refuses (exec (.pollRead 0x60 68 0 0) idleState) .pollLength = true ∧
    refuses (exec (.request 0x60 .sign []) idleState) .requestCount = true ∧
    refuses (exec (.request 0x60 .sign [6, 0, 0, 0, 0, 0]) idleState) .requestCount = true ∧
    refuses (exec (.request 0x60 .sign (40 :: List.replicate 39 0)) idleState) .requestCount = true ∧
    refuses (exec (.request 0x60 .sign [7, 0, 0, 0]) idleState) .requestCount = true ∧
    refuses (exec (.request 0x60 .sign [7, 0, 0, 0, 0, 0]) idleState) .requestCount = true := by decide +kernel
/-- A count byte of 1, and one above the four bytes read. -/
theorem test_witness_UndefinedOperandsAreRefused_response :
    (let s := { withRbuf [0x01, 0x00, 0x03, 0x40] (busyAt .vCrc .sign) with sel := .nonce }
     s.seq = .vCrc ∧ s.op ≠ .pollRead ∧ s.rbuf.slice 0 (respLen s.sel + 3) = some [0x01, 0x00, 0x03, 0x40] ∧
       checksumOk [0x01, 0x00, 0x03, 0x40] = none ∧ refuses (step s) .checksumCount = true) ∧
    (let s := { withRbuf [0x05, 0x00, 0x03, 0x40] (busyAt .vCrc .request) with sel := .nonce }
     s.rbuf.slice 0 (respLen s.sel + 3) = some [0x05, 0x00, 0x03, 0x40] ∧
       checksumOk [0x05, 0x00, 0x03, 0x40] = none ∧ refuses (step s) .checksumCount = true) := by decide +kernel
theorem test_witness_ReservedSelectCodesAreRefused :
    idleState.seq = .idle ∧ 9 ≤ (blankRecord 9).cmd.toNat ∧ 9 ≤ (blankRecord 15).cmd.toNat := by decide +kernel
theorem test_witness_CommandsAreRefusedWhileBusy : (busyAt .pRead .sign).seq ≠ .idle := by decide +kernel
/-- The seven clauses in order. -/
theorem test_witness_StepRunsTheDecodedInstruction :
    (let s := { idleState with hostQueue := [wakeupRecord] }
     s.seq = .idle ∧ s.hostQueue = wakeupRecord :: [] ∧ decode (.command wakeupRecord) = .ok (.wakeup 0x60)) ∧
    ((busyAt .wPulse .wakeup).seq = .wPulse ∧ decode (.token 0x00) = .ok .wakePulse) ∧
    ((busyAt .wResleep .wakeup).seq = .wResleep ∧ (busyAt .sSleep .sleep).seq = .sSleep ∧
      decode (.token 0x01) = .ok .sleepToken) ∧
    ((busyAt .qWrite .request).seq = .qWrite ∧ decode (.token 0x03) = .ok .waCommand) ∧
    (let s := answering [signatureAnswer] (busyAt .wVerify .wakeup)
     s.seq = .wVerify ∧ s.bus.readRes 4 = .ok [0x04, 0x11, 0x33, 0x43] ∧
       decode (.signature [0x04, 0x11, 0x33, 0x43]) = .ok .wakeSignature) ∧
    ((busyAt .bBuild .derivePublicKey).seq = .bBuild ∧
      (busyAt .bBuild .derivePublicKey).builtFrame = some (.genKey 0) ∧
      decode (encode (.genKey 0)) = .ok (.genKey 0)) ∧
    (let s := { withRbuf [0x04, 0x0F, 0x23, 0x42] (busyAt .vCrc .sign) with sel := .nonce }
     s.seq = .vCrc ∧ s.rbuf.slice 0 (respLen s.sel + 3) = some [0x04, 0x0F, 0x23, 0x42] ∧
       decode (.response s.sel [0x04, 0x0F, 0x23, 0x42]) = .ok (.respNonce 0x0F 0x4223)) := by decide +kernel
theorem test_witness_PlacedInstructionIsRunNext : WellFormed (.read32 .data 0xFFFF) = true := by decide +kernel
theorem test_witness_EachBusStateAppendsOneEvent :
    ((busyAt .wSettle .wakeup).seq.touchesBus = true ∧
      ∃ t, step (busyAt .wSettle .wakeup) = .next t ∧ (t.bus.trace == [.delay 1500]) = true) ∧
    ((busyAt .aCheck .sign).seq.touchesBus = false ∧
      ∃ t, step (busyAt .aCheck .sign) = .next t ∧ (t.bus.trace == []) = true) :=
  ⟨⟨by decide +kernel, next_exists _ (fun t => t.bus.trace == [.delay 1500]) (by decide +kernel)⟩,
    ⟨by decide +kernel, next_exists _ (fun t => t.bus.trace == []) (by decide +kernel)⟩⟩
/-- A write, a read of the most bytes, a delay. -/
theorem test_witness_EventsAddressOnlyTheDeviceOrZero :
    (∃ t, step (answering [.fail] (busyAt .sSleep .sign)) = .next t ∧
      (t.bus.trace == [] ++ [.write 0x60 [0x01] .fail]) = true) ∧
    (∃ t, step (answering [.fail] { busyAt .pRead .derivePublicKey with sel := .genKey }) = .next t ∧
      (t.bus.trace == [] ++ [.read 0x60 67 .fail]) = true) ∧
    (∃ t, step (busyAt .wSettle .sign) = .next t ∧ (t.bus.trace == [] ++ [.delay 1500]) = true) :=
  ⟨next_exists _ (fun t => t.bus.trace == [] ++ [.write 0x60 [0x01] .fail]) (by decide +kernel),
    next_exists _ (fun t => t.bus.trace == [] ++ [.read 0x60 67 .fail]) (by decide +kernel),
    next_exists _ (fun t => t.bus.trace == [] ++ [.delay 1500]) (by decide +kernel)⟩
theorem test_witness_OperandsAreReadOnlyWhileRunning :
    (busyAt .aCheck .sign).seq ≠ .idle ∧ ∃ t, step (busyAt .aCheck .sign) = .next t ∧ (t.seq == .wPulse) = true :=
  ⟨by decide +kernel, next_exists _ (fun t => t.seq == .wPulse) (by decide +kernel)⟩
/-- No checksum, `C_RUN`, `Q_CRC`, `V_CRC`. -/
theorem test_witness_ChecksumRegisterIsWrittenOnlyByCrc16 :
    (∃ t, step (busyAt .aCheck .sign) = .next t ∧ (t.crc == 0) = true) ∧
    (∃ t, step { busyAt .cRun .checksum with hostBuf := [0x04, 0x11, 0, 0] } = .next t ∧ (t.crc == 0x4333) = true) ∧
    (∃ t, step (withCbuf [0x03, 0x07, 0x02, 0x80, 0x00, 0x00] (busyAt .qCrc .request)) = .next t ∧
      (t.crc == 0xAD09) = true) ∧
    (∃ t, step { withRbuf [0x04, 0x00, 0x03, 0x40] (busyAt .vCrc .sign) with sel := .nonce } = .next t ∧
      (t.crc == 0x4003) = true) :=
  ⟨next_exists _ (fun t => t.crc == 0) (by decide +kernel),
    next_exists _ (fun t => t.crc == 0x4333) (by decide +kernel),
    next_exists _ (fun t => t.crc == 0xAD09) (by decide +kernel),
    next_exists _ (fun t => t.crc == 0x4003) (by decide +kernel)⟩
/-- No read, a failed read, a successful one at `W_VERIFY` and at `P_READ`. -/
theorem test_witness_ResponseBufferHoldsTheLastRead :
    (∃ t, step (busyAt .aCheck .sign) = .next t ∧ (t.rbuf == []) = true) ∧
    (∃ t, step (answering [.fail] (busyAt .pRead .sign)) = .next t ∧ (t.rbuf == []) = true) ∧
    (∃ t, step (answering [signatureAnswer] (busyAt .wVerify .sign)) = .next t ∧ (t.rbuf.length == 4) = true) ∧
    (∃ t, step (answering [.ok [7, 7]] { busyAt .pRead .pollRead with n := 2 }) = .next t ∧
      (t.rbuf == [(0, 7), (1, 7)]) = true) :=
  ⟨next_exists _ (fun t => t.rbuf == []) (by decide +kernel), next_exists _ (fun t => t.rbuf == []) (by decide +kernel),
    next_exists _ (fun t => t.rbuf.length == 4) (by decide +kernel),
    next_exists _ (fun t => t.rbuf == [(0, 7), (1, 7)]) (by decide +kernel)⟩
theorem test_witness_ElapsedCountsDelayArguments :
    (∃ t, step (busyAt .pWait .sign) = .next t ∧ (t.elapsed == 2000) = true) ∧
    (∃ t, step { busyAt .pBackoff .sign with elapsed := 5000 } = .next t ∧ (t.elapsed == 6000) = true) ∧
    (∃ t, step (busyAt .aCheck .sign) = .next t ∧ (t.elapsed == 0) = true) :=
  ⟨next_exists _ (fun t => t.elapsed == 2000) (by decide +kernel),
    next_exists _ (fun t => t.elapsed == 6000) (by decide +kernel),
    next_exists _ (fun t => t.elapsed == 0) (by decide +kernel)⟩
theorem test_witness_ResultIsPresentedAtDone :
    (∃ t, step (busyAt .aCheck .sign) = .next t ∧ (t.result == .ok []) = true) ∧
    (∃ t, step { busyAt .done .sign with out := [1] } = .next t ∧ (t.result == .ok [1]) = true) ∧
    (∃ t, step { busyAt .done .sign with err := some .io } = .next t ∧ (t.result == .err .io) = true) :=
  ⟨next_exists _ (fun t => t.result == .ok []) (by decide +kernel),
    next_exists _ (fun t => t.result == .ok [1]) (by decide +kernel),
    next_exists _ (fun t => t.result == .err .io) (by decide +kernel)⟩
/-- A match, the two Sleep states, and a mismatch. -/
theorem test_witness_LinkHasTwoTransitions :
    ((answering [signatureAnswer] (busyAt .wVerify .sign)).bus.readRes 4 = .ok [0x04, 0x11, 0x33, 0x43] ∧
      ∃ t, step (answering [signatureAnswer] (busyAt .wVerify .sign)) = .next t ∧ (t.link == .active) = true) ∧
    (∃ t, step (answering [.ok []] { busyAt .wResleep .sign with link := .active }) = .next t ∧
      (t.link == .dormant) = true) ∧
    (∃ t, step (answering [.ok []] { busyAt .sSleep .sign with link := .active }) = .next t ∧
      (t.link == .dormant) = true) ∧
    ((answering [.fail] (busyAt .wVerify .sign)).bus.readRes 4 ≠ .ok [0x04, 0x11, 0x33, 0x43] ∧
      ∃ t, step (answering [.fail] { busyAt .wVerify .sign with link := .active }) = .next t ∧
        (t.link == .active) = true) :=
  ⟨⟨by decide +kernel, next_exists _ (fun t => t.link == .active) (by decide +kernel)⟩,
    next_exists _ (fun t => t.link == .dormant) (by decide +kernel),
    next_exists _ (fun t => t.link == .dormant) (by decide +kernel),
    ⟨by decide +kernel, next_exists _ (fun t => t.link == .active) (by decide +kernel)⟩⟩
/-- A state of each outcome. -/
theorem test_witness_SleepByteSetsDormantAndLinkIsNeverRead :
    (busyAt .wResleep .wakeup).seq = .wResleep ∧ (busyAt .sSleep .sign).seq = .sSleep ∧
    (∃ t, step (busyAt .aCheck .sign) = .next t ∧ (t.link == .dormant) = true) ∧
    step (busyAt .aCheck .sleep) = .fault .noTransition ∧
    step { idleState with hostQueue := [blankRecord 9] } = .refused (.reservedSelect 9) :=
  ⟨rfl, rfl, next_exists _ (fun t => t.link == .dormant) (by decide +kernel), rfl, rfl⟩
/-- Equal, smaller by one, larger by one. -/
theorem test_witness_CountTestComesFirst :
    (let s := withRbuf [0x07] (busyAt .vLen .request)
     s.seq = .vLen ∧ s.op ≠ .pollRead ∧ s.rbuf.read 0 = some 0x07 ∧ (0x07 : Byte).toNat = respLen s.sel + 3) ∧
    (let s := withRbuf [0x06] (busyAt .vLen .request)
     s.rbuf.read 0 = some 0x06 ∧ (0x06 : Byte).toNat ≠ respLen s.sel + 3) ∧
    (let s := withRbuf [0x08] (busyAt .vLen .readZone)
     s.rbuf.read 0 = some 0x08 ∧ (0x08 : Byte).toNat ≠ respLen s.sel + 3) := by decide +kernel
/-- A good checksum for REQUEST and for a composite command, and a bad one. -/
theorem test_witness_ChecksumTestComparesTheTrailer :
    (let s := { withRbuf [0x04, 0x00, 0x03, 0x40] (busyAt .vCrc .request) with sel := .nonce }
     s.seq = .vCrc ∧ s.op = .request ∧ s.rbuf.slice 0 (respLen s.sel + 3) = some [0x04, 0x00, 0x03, 0x40] ∧
       (([0x04, 0x00, 0x03, 0x40] : List Byte).headD 0).toNat = respLen s.sel + 3 ∧
       checksumOk [0x04, 0x00, 0x03, 0x40] = some true) ∧
    (let s := { withRbuf [0x04, 0x00, 0x03, 0x41] (busyAt .vCrc .sign) with sel := .nonce }
     s.seq = .vCrc ∧ s.op.composite = true ∧
       s.rbuf.slice 0 (respLen s.sel + 3) = some [0x04, 0x00, 0x03, 0x41] ∧
       checksumOk [0x04, 0x00, 0x03, 0x41] = some false) := by decide +kernel
theorem test_witness_CleanupSleepNeverChangesTheResult :
    ((busyAt .sSleep .sign).seq = .sSleep ∧ (busyAt .sSleep .sign).op.composite = true) ∧
    (busyAt .wResleep .wakeup).seq = .wResleep := by decide +kernel
/-- Full buffers, at the steps that write to them. -/
theorem test_witness_BuffersStayCanonical :
    Memory.wf 40 (withCbuf (List.replicate 40 5) (busyAt .bBuild .sign)).cbuf = true ∧
    Memory.wf 67 (withRbuf (List.replicate 67 5) (busyAt .bBuild .sign)).rbuf = true ∧
    ∃ t, step (withCbuf (List.replicate 40 5) (withRbuf (List.replicate 67 5) (busyAt .bBuild .sign))) = .next t ∧
      (t.cbuf.length == 40) = true :=
  ⟨by decide +kernel, by decide +kernel, next_exists _ (fun t => t.cbuf.length == 40) (by decide +kernel)⟩
/-- A standalone POLL_READ of the most bytes. -/
theorem test_witness_OutputStaysWithinCapacity :
    (busyAt .pRead .pollRead).out.length ≤ 67 ∧ (busyAt .pRead .pollRead).result.bytes.length ≤ 67 ∧
    ∃ t, step (answering [.ok (List.replicate 67 5)] { busyAt .pRead .pollRead with n := 67 }) = .next t ∧
      (t.out.length == 67) = true :=
  ⟨by decide +kernel, by decide +kernel, next_exists _ (fun t => t.out.length == 67) (by decide +kernel)⟩
theorem test_witness_BusyExactlyWhenNotIdle :
    ((busyAt .done .sign).busy = true ↔ (busyAt .done .sign).seq ≠ .idle) ∧
    ∃ t, step (busyAt .done .sign) = .next t ∧ (!t.busy) = true :=
  ⟨by decide +kernel, next_exists _ (fun t => !t.busy) (by decide +kernel)⟩
/-- A response with the right count, about to be checked. -/
theorem test_witness_ReachableIsKept :
    Reachable { withRbuf [0x04, 0x00, 0x03, 0x40] (busyAt .vCrc .sign) with sel := .nonce } ∧
    ∃ t, step { withRbuf [0x04, 0x00, 0x03, 0x40] (busyAt .vCrc .sign) with sel := .nonce } = .next t ∧
      (t.seq == .xPayload) = true :=
  ⟨⟨by decide +kernel, by decide +kernel⟩, next_exists _ (fun t => t.seq == .xPayload) (by decide +kernel)⟩
theorem test_witness_ReachableStatesNeverFault : Reachable (busyAt .aCheck .sign) :=
  ⟨by decide +kernel, by decide +kernel⟩
/-- A reserved select code, and an operand out of range. -/
theorem test_witness_OnlyUndefinedHostInputIsRefused :
    (Reachable { idleState with hostQueue := [blankRecord 9] } ∧
      step { idleState with hostQueue := [blankRecord 9] } = .refused (.reservedSelect 9)) ∧
    (Reachable { idleState with hostQueue := [blankRecord 1] } ∧
      step { idleState with hostQueue := [blankRecord 1] } = .refused .pollLength) :=
  ⟨⟨⟨by decide +kernel, by decide +kernel⟩, rfl⟩, ⟨⟨by decide +kernel, by decide +kernel⟩, rfl⟩⟩
/-- The least count, and a count as long as the buffer. -/
theorem test_witness_ChecksumFollowsPseudocode : idleState.seq = .idle ∧
    (2 ≤ (2 : Byte).toNat ∧ (2 : Byte).toNat ≤ ([0x5A] : List Byte).length + 1) ∧
    (2 ≤ (4 : Byte).toNat ∧ (4 : Byte).toNat ≤ ([0x11, 0, 0] : List Byte).length + 1) := by decide +kernel
theorem test_witness_PollReadFollowsPseudocode : idleState.seq = .idle ∧
    (1 ≤ (1 : Byte).toNat ∧ (1 : Byte).toNat ≤ 67) ∧ (1 ≤ (67 : Byte).toNat ∧ (67 : Byte).toNat ≤ 67) := by
  decide +kernel
theorem test_witness_WakeupFollowsPseudocode : idleState.seq = .idle := by decide +kernel
theorem test_witness_SleepFollowsPseudocode : idleState.seq = .idle := by decide +kernel
/-- The least frame without its checksum, and the greatest with it. -/
theorem test_witness_RequestFollowsPseudocode : idleState.seq = .idle ∧
    (7 ≤ (7 : Byte).toNat ∧ (7 : Byte).toNat ≤ 39 ∧ (7 : Byte).toNat = ([2, 0, 0x13, 0] : List Byte).length + 3) ∧
    (7 ≤ (39 : Byte).toNat ∧ (39 : Byte).toNat ≤ 39 ∧
      (39 : Byte).toNat ≤ (List.replicate 38 (0 : Byte)).length + 1) := by decide +kernel
theorem test_witness_ReadZoneFollowsPseudocode : idleState.seq = .idle := by decide +kernel
theorem test_witness_ReadSerialFollowsPseudocode : idleState.seq = .idle := by decide +kernel
theorem test_witness_DerivePublicKeyFollowsPseudocode : idleState.seq = .idle := by decide +kernel
theorem test_witness_SignFollowsPseudocode : idleState.seq = .idle := by decide +kernel
theorem test_witness_WakeupIsBounded : idleState.seq = .idle := by decide +kernel
/-- 95_test_vectors.md V6: K = 4, and K = 1 with `max < typ`. -/
theorem test_witness_PollReadTimesOutAfterKReads : idleState.seq = .idle ∧
    (1 ≤ (7 : Byte).toNat ∧ (7 : Byte).toNat ≤ 67) ∧
    (answering (List.replicate 4 .fail) idleState).bus.answers = List.replicate (1 + (5000 - 2000) / 1000) .fail ++ [] ∧
    (answering [.fail] idleState).bus.answers = List.replicate (1 + (2000 - 5000) / 1000) .fail ++ [] := by
  decide +kernel
/-- V6: the first read answers; the last one does. -/
theorem test_witness_PollReadReturnsTheFirstAnswer : idleState.seq = .idle ∧
    (1 ≤ (1 : Byte).toNat ∧ (1 : Byte).toNat ≤ 67) ∧ ([9] : List Byte).length = (1 : Byte).toNat ∧
    (0 ≤ (2000 - 2000) / 1000 ∧
      (answering [.ok [9]] idleState).bus.answers = List.replicate 0 .fail ++ .ok [9] :: []) ∧
    (1 ≤ (3000 - 2000) / 1000 ∧
      (answering [.fail, .ok [9]] idleState).bus.answers = List.replicate 1 .fail ++ .ok [9] :: []) := by
  decide +kernel
theorem test_witness_BadReadLengthTouchesNoBus : idleState.seq = .idle ∧
    ((5 : Byte) ≠ 4 ∧ (5 : Byte) ≠ 32) ∧ ((33 : Byte) ≠ 4 ∧ (33 : Byte) ≠ 32) := by decide +kernel
/-- Each of the four commands, READ_ZONE with both lengths. -/
theorem test_witness_CompositeCommandsEndWithSleep : idleState.seq = .idle ∧
    wakingAddr (.readZone 0x60 .config 0 0 0 4) = some 0x60 ∧
    wakingAddr (.readZone 0x60 .config 0 0 0 32) = some 0x60 ∧ wakingAddr (.readSerial 0x60) = some 0x60 ∧
    wakingAddr (.derivePublicKey 0x60 4) = some 0x60 ∧ wakingAddr (.signCmd 0x60 0 (Vector.replicate 32 0)) = some 0x60 := by
  decide +kernel
/-- The nine commands with operands in range. -/
theorem test_witness_EveryCommandEndsWithinBounds : idleState.seq = .idle ∧
    ∀ i ∈ ([.checksum [2, 0], .pollRead 0x60 67 0 0, .wakeup 0x60, .sleep 0x60,
      .request 0x60 .sign [7, 2, 0, 0x13, 0], .readZone 0x60 .otp 0 0 0 5, .readSerial 0x60, .derivePublicKey 0x60 4,
      .signCmd 0x60 0 (Vector.replicate 32 0)] : List Instr), isHostCommand i = true ∧ WellFormed i = true := by
  decide +kernel
/-- A good Nonce exchange; the write of the Sign frame then fails, which ends the run soonest. -/
theorem test_witness_SignFrameFollowsOnlyAGoodNonce :
    ∃ u, Runs (.signCmd 0x60 0 (Vector.replicate 32 0)) (answering [.ok [], signatureAnswer, .ok [],
      .ok [0x04, 0x00, 0x03, 0x40], .fail, .ok []] idleState) u ∧
      ((u.bus.trace.drop 5).take 2 == [.read 0x60 4 (.ok [0x04, 0x00, 0x03, 0x40]),
          .write 0x60 [0x03, 0x07, 0x41, 0x80, 0x00, 0x00, 0x28, 0x05] .fail] &&
        isSignWrite (.write 0x60 [0x03, 0x07, 0x41, 0x80, 0x00, 0x00, 0x28, 0x05] .fail)) = true :=
  run_exists _ _ (fun u => (u.bus.trace.drop 5).take 2 == [.read 0x60 4 (.ok [0x04, 0x00, 0x03, 0x40]),
          .write 0x60 [0x03, 0x07, 0x41, 0x80, 0x00, 0x00, 0x28, 0x05] .fail] &&
        isSignWrite (.write 0x60 [0x03, 0x07, 0x41, 0x80, 0x00, 0x00, 0x28, 0x05] .fail)) (by decide +kernel)
/-- Two states that differ in what an earlier command left. -/
theorem test_witness_CommandsKeepNothingFromEarlierOnes :
    (∃ u, Runs (.sleep 0x60) (answering [.fail] idleState) u ∧ (u.result == .err .io) = true) ∧
    (∃ u, Runs (.sleep 0x60) (answering [.fail] { withRbuf [1, 2] idleState with
      out := [5], err := some .timeout, link := .active, crc := 9 }) u ∧ (u.result == .err .io) = true) :=
  ⟨run_exists _ _ (fun u => u.result == .err .io) (by decide +kernel),
    run_exists _ _ (fun u => u.result == .err .io) (by decide +kernel)⟩

end Sys2Proof.Tests
end

/-! The Command Envelope Protocol's two tests of a response (spec/44_request.md R121 to R123): the count test at
`V_LEN` and the checksum test at `V_CRC`. -/

namespace Sys2Proof.Proofs.Request

open Sys2Proof.Machine Sys2Proof.Laws

/-! ### The parts of a Response Frame (R52) -/

/-- Two 16-bit quantities are equal when they travel as the same two bytes (R35). -/
theorem halfBytes_inj (a b : Half) : halfBytes a = halfBytes b ↔ a = b := by
  constructor
  · intro h
    obtain ⟨hlo, hhi⟩ : loByte a = loByte b ∧ hiByte a = hiByte b := by simpa [halfBytes] using h
    rw [← halfOf_loByte_hiByte a, hlo, hhi, halfOf_loByte_hiByte]
  · exact congrArg halfBytes

/-- The count byte of every profile fits 8 bits (R121). -/
theorem ofNat_frameLen_toNat (p : Profile) : (BitVec.ofNat 8 (frameLen p)).toNat = frameLen p := by
  cases p <;> rfl

/-- A Response Frame is its covered region, then the checksum field. -/
theorem responseFrame_eq_body (p : Profile) (payload : List Byte) (crc : Half) (h : payload.length = respLen p) :
    responseFrame payload crc = responseBody p payload ++ halfBytes crc := by
  simp [responseFrame, responseBody, frameLen, h]

theorem responseBody_length (p : Profile) (payload : List Byte) (h : payload.length = respLen p) :
    (responseBody p payload).length = respLen p + 1 := by
  simp [responseBody, h]

/-- Bytes as many as the profile reads, whose first byte says so, are a Response Frame. -/
theorem exists_eq_responseFrame (p : Profile) (bytes : List Byte) (hlen : bytes.length = respLen p + 3)
    (hcount : (bytes.headD 0).toNat = respLen p + 3) :
    ∃ payload crc, payload.length = respLen p ∧ bytes = responseFrame payload crc := by
  match bytes with
  | [] => simp at hlen
  | count :: rest =>
    have hrest : rest.length = respLen p + 2 := by simpa using hlen
    obtain ⟨lo, hi, htail⟩ : ∃ lo hi, rest.drop (respLen p) = [lo, hi] :=
      List.length_eq_two.1 (by simp [hrest])
    have htake : (rest.take (respLen p)).length = respLen p := by simp [hrest]
    have hbyte : count = BitVec.ofNat 8 (frameLen p) :=
      BitVec.eq_of_toNat_eq (by rw [ofNat_frameLen_toNat]; exact hcount)
    refine ⟨rest.take (respLen p), halfOf lo hi, htake, ?_⟩
    calc count :: rest
        = count :: (rest.take (respLen p) ++ rest.drop (respLen p)) := by rw [List.take_append_drop]
      _ = responseFrame (rest.take (respLen p)) (halfOf lo hi) := by
        simp [responseFrame_eq_body p _ _ htake, responseBody, halfBytes, htail, hbyte]

section

variable (p : Profile) (payload : List Byte) (crc : Half) (h : payload.length = respLen p)
include h

theorem responseFrame_take_body : (responseFrame payload crc).take (respLen p + 1) = responseBody p payload := by
  rw [responseFrame_eq_body p payload crc h, List.take_left' (responseBody_length p payload h)]

theorem responseFrame_drop_body : (responseFrame payload crc).drop (respLen p + 1) = halfBytes crc := by
  rw [responseFrame_eq_body p payload crc h, List.drop_left' (responseBody_length p payload h)]

theorem responseFrame_payload : ((responseFrame payload crc).drop 1).take (respLen p) = payload := by
  simp [responseFrame, ← h]

/-- The last two bytes of a Response Frame are its checksum field, low byte first. -/
theorem responseFrame_trailer :
    (responseFrame payload crc)[respLen p + 1]? = some (loByte crc) ∧
      (responseFrame payload crc)[respLen p + 2]? = some (hiByte crc) := by
  simp [responseFrame, halfBytes, ← h]

/-- `checksum_ok` of a Response Frame compares the checksum of its covered region with its checksum field (R82). -/
theorem checksumOk_responseFrame :
    checksumOk (responseFrame payload crc) = some (decide (crc16 (responseBody p payload) = crc)) := by
  have hN : coveredLen (responseFrame payload crc) = some (respLen p + 1) := by
    rw [coveredLen_eq_some]
    refine ⟨BitVec.ofNat 8 (frameLen p), payload ++ halfBytes crc,
      responseFrame_eq_body p payload crc h, ofNat_frameLen_toNat p, ?_⟩
    simp [h]
  have hcmp : (halfBytes crc == halfBytes (crc16 (responseBody p payload))) =
      decide (crc16 (responseBody p payload) = crc) := by
    rw [beq_eq_decide, decide_eq_decide, halfBytes_inj, eq_comm]
  rw [checksumOk, hN, Option.map_some, responseFrame_drop_body p payload crc h,
    List.take_of_length_le (by simp), responseFrame_take_body p payload crc h, hcmp]

end

/-! ### The count test, row `V_LEN` -/

/-- The count test is equality of the count byte with the number of bytes read (R121). -/
theorem countOk_iff (count : Byte) (n : Nat) : countOk count n = true ↔ count.toNat = n := beq_iff_eq

/-- Row `V_LEN` of an exchange whose first byte read is `count`. -/
theorem step_vLen_exchange (s : State) (count : Byte) (hseq : s.seq = .vLen) (hop : s.op ≠ .pollRead)
    (hread : s.rbuf.read 0 = some count) : step s =
    if countOk count (frameLen s.sel) then .next { s with seq := .vCrc }
    else .next { s with err := some .protocol, seq := .xFail } := by
  have hbytes : s.rbufRead 0 1 = .ok [count] :=
    (bufRead_eq_ok _ _ _ _ _).2 ⟨by decide, by simp [Memory.slice, hread]⟩
  have hn : s.readLen = frameLen s.sel := if_neg hop
  rw [step_vLen s hseq, stepVLen, hbytes, withBytes_ok, hn]
  rfl

/-- Settles O33: the count test is one comparison of the first byte with the number of bytes read. -/
theorem countTestComesFirst : Obligations.CountTestComesFirst := by
  intro s count hseq hop hread
  have hstep := step_vLen_exchange s count hseq hop hread
  refine ⟨fun heq => ?_, fun hne => ?_, ?_⟩
  · rw [hstep, if_pos ((countOk_iff _ (frameLen s.sel)).2 heq)]
  · rw [hstep, if_neg (mt (countOk_iff _ (frameLen s.sel)).1 hne)]
  · cases s.sel <;> rfl

/-! ### The checksum test, row `V_CRC` -/

/-- Settles O34: bytes that passed the count test are a Response Frame, and on it `checksum_ok` and the checksum
test of the step make the same comparison. -/
theorem checksumTestComparesTheTrailer : Obligations.ChecksumTestComparesTheTrailer := by
  intro s bytes hseq hop hslice hcount
  have hlen : bytes.length = respLen s.sel + 3 := ((Memory.slice_eq_some _ _ _ _).1 hslice).1
  obtain ⟨payload, crc, hp, rfl⟩ := exists_eq_responseFrame s.sel bytes hlen hcount
  obtain ⟨hlo, hhi⟩ := responseFrame_trailer s.sel payload crc hp
  have hstep := step_vCrc s hseq payload crc hp hslice
  rw [checkResponse_eq s _ crc hop] at hstep
  rw [responseFrame_take_body s.sel payload crc hp, responseFrame_payload s.sel payload crc hp,
    checksumOk_responseFrame s.sel payload crc hp, hlo, hhi, hstep]
  simp only [Option.some.injEq, decide_eq_true_eq, decide_eq_false_iff_not]
  refine ⟨?_, fun hok hreq => ?_, fun hok hcomp => ?_, fun hbad => ?_⟩
  · rw [← halfBytes_inj, eq_comm]
    simp [halfBytes]
  · rw [if_pos hok, if_pos hreq]
    rfl
  · have hne : s.op ≠ .request := fun hreq => by simp [hreq, Op.composite] at hcomp
    rw [if_pos hok, if_neg hne]
  · rw [if_neg hbad]

end Sys2Proof.Proofs.Request

/-! The clean-up Sleep (spec/43_wake_sleep.md R113, R114; spec/60_exceptions.md R154): outside a standalone SLEEP, what
the Sleep token does next does not depend on what its write returns. -/

namespace Sys2Proof.Proofs.Cleanup

open Sys2Proof.Machine Sys2Proof.Laws

/-! ### The Sleep token, row by row of R14 -/

/-- Row `W_RESLEEP`: the result of the write is ignored and the second attempt follows (R111, D11). -/
theorem execSleepToken_wResleep (s : State) (h : s.seq = .wResleep) : execSleepToken s =
    .next { (s.busWrite s.addr [waSleep]).setDormant with wakeTry := true, seq := .wPulse } := by
  simp only [execSleepToken, h]

/-- Row `S_SLEEP` of any command but a standalone SLEEP: the result of the write is ignored and `DONE` follows. -/
theorem execSleepToken_cleanup (s : State) (hseq : s.seq = .sSleep) (hop : s.op ≠ .sleep) : execSleepToken s =
    .next { (s.busWrite s.addr [waSleep]).setDormant with seq := .done } := by
  unfold execSleepToken
  split
  next hre => simp [hseq] at hre
  next hsleep _ _ => exact absurd hsleep hop
  next hsleep _ _ => exact absurd hsleep hop
  next => rfl

/-- The standalone SLEEP is no composite command (spec/00_scope.md R8). -/
theorem ne_sleep_of_composite (op : Op) (h : op.composite = true) : op ≠ .sleep := by
  rintro rfl
  cases h

/-! ### The steps -/

/-- The clean-up step of a composite command. -/
theorem step_cleanupSleep (s : State) (hseq : s.seq = .sSleep) (hop : s.op.composite = true) :
    step s = .next { (s.busWrite s.addr [waSleep]).setDormant with seq := .done } := by
  rw [step_sSleep s hseq, execSleepToken_cleanup s hseq (ne_sleep_of_composite s.op hop)]

/-- The step between the two wake attempts. -/
theorem step_sleepBetweenAttempts (s : State) (hseq : s.seq = .wResleep) :
    step s = .next { (s.busWrite s.addr [waSleep]).setDormant with wakeTry := true, seq := .wPulse } := by
  rw [step_wResleep s hseq, execSleepToken_wResleep s hseq]

/-- Row `DONE`: the result is presented (R158). -/
theorem step_done_finish (s : State) (hseq : s.seq = .done) : step s = .next s.finish := step_done s hseq

/-- Settles O35: both Sleep steps leave `err`, `out` and `result` as they are whatever the write returns, and `DONE`
presents a result made of the first two alone. -/
theorem cleanupSleepNeverChangesTheResult : Obligations.CleanupSleepNeverChangesTheResult := by
  intro s
  refine ⟨fun hseq hop => ?_, fun hseq => ?_⟩
  · exact ⟨_, _, step_cleanupSleep s hseq hop, step_done_finish _ rfl, rfl, rfl⟩
  · exact ⟨_, step_sleepBetweenAttempts s hseq, rfl, rfl, rfl, rfl, rfl⟩

end Sys2Proof.Proofs.Cleanup

/-! The ports' encodings (spec/30_encoding.md): the encoder is read back by the decoder, and the bytes a decoder
accepts are the encoding of what they stand for. -/

namespace Sys2Proof.Proofs.Encoding

open Sys2Proof.Machine Sys2Proof.Laws Sys2Proof.Proofs.Request

/-- Settles O1: the round trip of each row. -/
theorem decodeReadsBackEncode : Obligations.DecodeReadsBackEncode := by
  intro i
  cases i with
  | read4 zone za => exact RoundTrip.read4 zone za
  | read32 zone za => exact RoundTrip.read32 zone za
  | genKey slot => exact RoundTrip.genKey slot
  | nonce data => exact RoundTrip.nonce data
  | sign slot => exact RoundTrip.sign slot
  | wakePulse => exact RoundTrip.wakePulse
  | sleepToken => exact RoundTrip.sleepToken
  | waCommand => exact RoundTrip.waCommand
  | wakeSignature => exact RoundTrip.wakeSignature
  | respRead4 payload crc => exact RoundTrip.respRead4 payload crc
  | respRead32 payload crc => exact RoundTrip.respRead32 payload crc
  | respGenKey payload crc => exact RoundTrip.respGenKey payload crc
  | respSign payload crc => exact RoundTrip.respSign payload crc
  | respNonce status crc => exact RoundTrip.respNonce status crc
  | checksum F => exact RoundTrip.checksum F
  | pollRead addr n typ max => exact RoundTrip.pollRead addr n typ max
  | wakeup addr => exact RoundTrip.wakeup addr
  | sleep addr => exact RoundTrip.sleep addr
  | request addr prof F => exact RoundTrip.request addr prof F
  | readZone addr zone slot block offset rlen => exact RoundTrip.readZone addr zone slot block offset rlen
  | readSerial addr => exact RoundTrip.readSerial addr
  | derivePublicKey addr slot => exact RoundTrip.derivePublicKey addr slot
  | signCmd addr slot data => exact RoundTrip.signCmd addr slot data
  | reserved9 => exact RoundTrip.reserved9
  | reserved10 => exact RoundTrip.reserved10
  | reserved11 => exact RoundTrip.reserved11
  | reserved12 => exact RoundTrip.reserved12
  | reserved13 => exact RoundTrip.reserved13
  | reserved14 => exact RoundTrip.reserved14
  | reserved15 => exact RoundTrip.reserved15

/-! ### Command Frames -/

/-- A zone code names the zone it is the code of (R58). -/
theorem zoneCode_of_zoneOfCode (b : Byte) (zone : Zone) (h : zoneOfCode b = some zone) : zoneCode zone = b := by
  unfold zoneOfCode at h
  split at h
  next hb => cases h; exact hb.symm
  next =>
    split at h
    next hb => cases h; exact hb.symm
    next =>
      split at h
      next hb => cases h; exact hb.symm
      next => cases h

/-- A 16-bit quantity whose high byte is zero is its low byte widened (R60, R62). -/
theorem zeroExtend_eq_halfOf (lo : Byte) : lo.zeroExtend 16 = halfOf lo 0 := by
  rw [← halfOf_loByte_hiByte (lo.zeroExtend 16), loByte_zeroExtend, hiByte_zeroExtend]

theorem genKeyFrame_eq (slot : Byte) : genKeyFrame slot = commandFrame opGenKey modeGenKey (halfOf slot 0) [] := by
  rw [genKeyFrame, zeroExtend_eq_halfOf]

theorem signFrame_eq (slot : Byte) : signFrame slot = commandFrame opSign modeSign (halfOf slot 0) [] := by
  rw [signFrame, zeroExtend_eq_halfOf]

/-- The register holds the 32 bytes it was made of (R61). -/
theorem toList_vec32 (l : List Byte) (h : l.length = 32) : (vec32 l).toList = l := by
  apply List.ext_getElem
  · simp [h]
  · intro k hk hl
    simp [vec32, Vector.toList, List.getElem?_eq_getElem hl]

/-- What the fields of a Command Frame decode to has those fields as its frame (R59 to R62). -/
theorem encode_of_decodeFields (opcode param1 lo hi : Byte) (payload : List Byte) (i : Instr)
    (h : decodeFields opcode param1 lo hi payload = .ok i) :
    encode i = .frame (commandFrame opcode param1 (halfOf lo hi) payload) := by
  unfold decodeFields at h
  split at h
  next hop =>
    split at h
    next => cases h
    next hlen =>
      have hnil : payload = [] := by simpa using hlen
      subst hop hnil
      split at h
      next zone _ hz =>
        cases h
        simp [encode, readFrame, zoneByte, zoneCode_of_zoneOfCode _ _ hz]
      next zone _ hz =>
        cases h
        simp [encode, readFrame, zoneByte, zoneCode_of_zoneOfCode _ _ hz]
      next => cases h
  next =>
    split at h
    next hop =>
      split at h
      next => cases h
      next hlen =>
        have hnil : payload = [] := by simpa using hlen
        subst hop hnil
        split at h
        next hp => cases h; simp [encode, genKeyFrame_eq, hp]
        next => cases h
    next =>
      split at h
      next hop =>
        split at h
        next => cases h
        next hlen =>
          subst hop
          split at h
          next hp => cases h; simp [encode, nonceFrame, hp, toList_vec32 payload (by simpa using hlen)]
          next => cases h
      next =>
        split at h
        next hop =>
          split at h
          next => cases h
          next hlen =>
            have hnil : payload = [] := by simpa using hlen
            subst hop hnil
            split at h
            next hp => cases h; simp [encode, signFrame_eq, hp]
            next => cases h
        next => cases h

/-- A frame the decoder accepts encodes again to its bytes before the checksum, with the checksum after them. -/
theorem encode_of_decodeFrame (bytes : List Byte) (i : Instr) (h : decodeFrame bytes = .ok i) :
    encode i = .frame (withChecksum (bytes.take (bytes.length - 2))) := by
  unfold decodeFrame at h
  split at h
  next count opcode param1 lo hi rest =>
    split at h
    next => cases h
    next hlong =>
      split at h
      next => cases h
      next hcount =>
        split at h
        next =>
          obtain ⟨k, hk⟩ : ∃ k, rest.length = k + 2 := ⟨rest.length - 2, by omega⟩
          have hframe : frameCount (rest.take k) = count := by
            apply BitVec.eq_of_toNat_eq
            have hle := count.isLt
            simp only [List.length_cons, hk] at hcount
            simp [frameCount, hk]
            omega
          rw [encode_of_decodeFields _ _ _ _ _ _ h]
          simp [commandFrame, frameBody, hk, hframe]
        next => cases h
  next => cases h

/-! ### Response Frames -/

/-- The row of a profile's response has the profile's frame as its bits (R52, R67). -/
theorem encode_responseInstr (p : Profile) (payload : List Byte) (crc : Half) (h : payload.length = respLen p) :
    encode (responseInstr p payload crc) = .response p (responseFrame payload crc) := by
  cases p with
  | nonce =>
    match payload, h with
    | [status], _ => rfl
  | read4 => rfl
  | read32 => rfl
  | genKey => rfl
  | sign => rfl

/-- A response the decoder accepts has the profile's length and count byte, and encodes again to its bytes. -/
theorem encode_of_decodeResponse (p : Profile) (bytes : List Byte) (i : Instr) (h : decodeResponse p bytes = .ok i) :
    encode i = .response p bytes ∧ bytes.length = respLen p + 3 ∧ (bytes.headD 0).toNat = respLen p + 3 := by
  have hshape : bytes.length = respLen p + 3 ∧ (bytes.headD 0).toNat = respLen p + 3 := by
    unfold decodeResponse at h
    split at h
    next => cases h
    next =>
      split at h
      next => cases h
      next hlen =>
        split at h
        next => cases h
        next hcount => simp_all [frameLen]
  obtain ⟨payload, crc, hp, rfl⟩ := exists_eq_responseFrame p bytes hshape.1 hshape.2
  rw [decodeResponse_responseFrame p payload crc hp] at h
  cases h
  exact ⟨encode_responseInstr p payload crc hp, hshape⟩

/-- Settles O2, frame and response apart. -/
theorem decodedBytesAreTheirEncoding : Obligations.DecodedBytesAreTheirEncoding :=
  ⟨encode_of_decodeFrame, encode_of_decodeResponse⟩

/-- Settles O3 by running the decoder on the twelve words. -/
theorem wordsOfEveryFormatDecode : Obligations.WordsOfEveryFormatDecode := by
  unfold Obligations.WordsOfEveryFormatDecode
  decide +kernel

/-! ### The Zone Address (R57) -/

theorem toNat_and_seven (offset : Byte) : (offset &&& 7).toNat = offset.toNat % 8 := by
  rw [BitVec.toNat_and]
  exact Nat.and_two_pow_sub_one_eq_mod offset.toNat 3

/-- Settles O4: a block and an offset of 8 bits leave the config and OTP sums below 2^16. -/
theorem zoneAddressFormula : Obligations.ZoneAddressFormula := by
  refine ⟨fun slot block offset => ?_, by decide, by decide⟩
  have hblock := block.isLt
  simp only [zoneAddress, BitVec.toNat_ofNat, toNat_and_seven, Nat.shiftLeft_eq]
  omega

end Sys2Proof.Proofs.Encoding

/-! The Checksum Engine (spec/40_checksum.md): the register's step is linear over XOR and can be undone, which gives
the laws of R83 and R86; and what CHECKSUM leaves in a buffer passes `checksum_ok` (R81, R82). -/

namespace Sys2Proof.Proofs.Checksum

open Sys2Proof.Machine Sys2Proof.Laws

/-! ### One data bit -/

/-- The register after one data bit (R80). -/
def crcStep (c : Half) (d : Bool) : Half := if d != c.getLsbD 15 then (c <<< 1) ^^^ crcPoly else c <<< 1

theorem crcBits_cons_step (c : Half) (d : Bool) (ds : List Bool) :
    crcBits c (d :: ds) = crcBits (crcStep c d) ds := crcBits_cons c d ds

/-- A data bit equal to the register's top bit shifts the register and does nothing else. -/
theorem crcStep_top (c : Half) : crcStep c (c.getLsbD 15) = c <<< 1 := by simp [crcStep]

/-- What a data bit differing from the top bit XORs in after the shift. -/
def feedback (differs : Bool) : Half := if differs then crcPoly else 0

theorem crcStep_eq (c : Half) (d : Bool) : crcStep c d = (c <<< 1) ^^^ feedback (d ^^ c.getLsbD 15) := by
  unfold crcStep feedback
  cases d <;> cases c.getLsbD 15 <;> simp

theorem feedback_xor (x y : Bool) : feedback (x ^^ y) = feedback x ^^^ feedback y := by
  cases x <;> cases y <;> decide

theorem crcStep_xor (c c' : Half) (d d' : Bool) :
    crcStep (c ^^^ c') (d ^^ d') = crcStep c d ^^^ crcStep c' d' := by
  have hbits : ((d ^^ d') ^^ (c.getLsbD 15 ^^ c'.getLsbD 15)) = ((d ^^ c.getLsbD 15) ^^ (d' ^^ c'.getLsbD 15)) := by
    rw [Bool.xor_assoc, Bool.xor_assoc, Bool.xor_left_comm d']
  rw [crcStep_eq, crcStep_eq, crcStep_eq, BitVec.shiftLeft_xor_distrib, BitVec.getLsbD_xor, hbits, feedback_xor]
  ac_rfl

/-- The polynomial has bit 0 set and the shift clears it, so bit 0 says whether the polynomial was XORed in. -/
theorem crcStep_getLsbD_zero (c : Half) (d : Bool) : (crcStep c d).getLsbD 0 = (d != c.getLsbD 15) := by
  unfold crcStep
  split <;> simp_all [crcPoly]

/-- A register is known from what one data bit makes of it. -/
theorem crcStep_injective (c c' : Half) (d : Bool) (h : crcStep c d = crcStep c' d) : c = c' := by
  have htop : (d != c.getLsbD 15) = (d != c'.getLsbD 15) := by
    rw [← crcStep_getLsbD_zero, ← crcStep_getLsbD_zero, h]
  have hshift : c <<< 1 = c' <<< 1 := by
    unfold crcStep at h
    rw [← htop] at h
    split at h
    · exact BitVec.xor_left_inj crcPoly |>.1 h
    · exact h
  apply BitVec.eq_of_getLsbD_eq
  intro i hi
  by_cases h15 : i = 15
  · subst h15
    simpa using htop
  · have hbit := congrArg (fun x => x.getLsbD (i + 1)) hshift
    simpa only [BitVec.getLsbD_shiftLeft, show i + 1 < 16 by omega, decide_true, Bool.true_and, Nat.add_sub_cancel,
      show ¬i + 1 < 1 by omega, decide_false, Bool.not_false] using hbit

/-! ### Sequences -/

theorem crcBits_xor (ds ds' : List Bool) (c c' : Half) (h : ds.length = ds'.length) :
    crcBits (c ^^^ c') (List.zipWith xor ds ds') = crcBits c ds ^^^ crcBits c' ds' := by
  induction ds generalizing ds' c c' with
  | nil =>
    obtain rfl : ds' = [] := List.length_eq_zero_iff.1 h.symm
    rfl
  | cons d ds ih =>
    match ds', h with
    | d' :: ds', h =>
      simp only [List.zipWith_cons_cons, crcBits_cons_step, crcStep_xor]
      exact ih ds' _ _ (by simpa using h)

theorem crcBits_injective (ds : List Bool) (c c' : Half) (h : crcBits c ds = crcBits c' ds) : c = c' := by
  induction ds generalizing c c' with
  | nil => exact h
  | cons d ds ih =>
    rw [crcBits_cons_step, crcBits_cons_step] at h
    exact crcStep_injective c c' d (ih _ _ h)

/-- Data bits equal to the register's bits, top bit first, only shift it. -/
theorem crcBits_own_bits (c : Half) (k : Nat) (hk : k ≤ 16) :
    crcBits c ((List.range k).map fun i => c.getLsbD (15 - i)) = c <<< k := by
  induction k with
  | zero => simp [crcBits]
  | succ k ih =>
    have htop : c.getLsbD (15 - k) = (c <<< k).getLsbD 15 := by
      simp only [BitVec.getLsbD_shiftLeft, show ¬15 < k by omega, decide_false, Bool.not_false, Bool.true_and,
        show 15 < 16 by omega, decide_true]
    rw [List.range_succ, List.map_append, crcBits_append, ih (by omega), List.map_singleton, crcBits_cons_step, htop,
      crcStep_top]
    simp [crcBits, BitVec.shiftLeft_add]

theorem dataBits_cons (b : Byte) (D : List Byte) : dataBits (b :: D) = dataBits [b] ++ dataBits D := by
  simp [dataBits]

theorem dataBits_byte_xor (b b' : Byte) : dataBits [b ^^^ b'] = List.zipWith xor (dataBits [b]) (dataBits [b']) := by
  simp [dataBits]

theorem dataBits_length (D : List Byte) : (dataBits D).length = 8 * D.length := by
  simp [dataBits, mul_comm]

theorem dataBits_xor (A B : List Byte) (h : A.length = B.length) :
    dataBits (List.zipWith (fun a b => a ^^^ b) A B) = List.zipWith xor (dataBits A) (dataBits B) := by
  induction A generalizing B with
  | nil =>
    obtain rfl : B = [] := List.length_eq_zero_iff.1 h.symm
    rfl
  | cons a A ih =>
    match B, h with
    | b :: B, h =>
      rw [List.zipWith_cons_cons, dataBits_cons, dataBits_cons a, dataBits_cons b, ih B (by simpa using h),
        dataBits_byte_xor, List.zipWith_append (by simp [dataBits_length])]

theorem crcFrom_xor (A B : List Byte) (c c' : Half) (h : A.length = B.length) :
    crcFrom (c ^^^ c') (List.zipWith (fun a b => a ^^^ b) A B) = crcFrom c A ^^^ crcFrom c' B := by
  rw [crcFrom, dataBits_xor A B h, crcBits_xor _ _ _ _ (by simp [dataBits_length, h])]
  rfl

/-- From a zero register only the zero byte gives a zero register. -/
theorem crcFrom_zero_byte (b : Byte) (h : crcFrom 0 [b] = 0) : b = 0 := by
  revert b
  decide +kernel

/-- From one register two different bytes give different registers. -/
theorem crcFrom_byte_injective (c : Half) (b b' : Byte) (h : crcFrom c [b] = crcFrom c [b']) : b = b' := by
  have hx : crcFrom 0 [b ^^^ b'] = 0 := by
    have hlin := crcFrom_xor [b] [b'] c c rfl
    rwa [h, BitVec.xor_self, BitVec.xor_self] at hlin
  exact BitVec.xor_eq_zero_iff.1 (crcFrom_zero_byte _ hx)

/-- Settles O5: the registers differ after the byte, and the bytes behind it cannot bring them together again. -/
theorem singleByteChangeChangesChecksum : Obligations.SingleByteChangeChangesChecksum := by
  intro before after b b' hne heq
  have hsplit : ∀ x : Byte, crc16 (before ++ x :: after) = crcFrom (crcFrom (crc16 before) [x]) after := fun x => by
    rw [crc16, crcFrom_append, ← List.singleton_append, crcFrom_append]
    rfl
  rw [hsplit b, hsplit b'] at heq
  exact hne (crcFrom_byte_injective _ b b' (crcBits_injective _ _ _ heq))

theorem crc16_replicate_zero (k : Nat) : crc16 (List.replicate k 0x00) = 0x0000 := by
  induction k with
  | zero => rfl
  | succ k ih =>
    have hbyte : crcFrom crcInit [0x00] = crcInit := by decide
    calc crc16 (List.replicate (k + 1) 0x00)
        = crcFrom (crcFrom crcInit [0x00]) (List.replicate k 0x00) := by
          rw [crc16, List.replicate_succ, ← crcFrom_append, List.singleton_append]
      _ = 0 := by rw [hbyte]; exact ih

/-- Settles O6. -/
theorem checksumIsXorLinear : Obligations.ChecksumIsXorLinear :=
  ⟨fun A B h => crcFrom_xor A B crcInit crcInit h, crc16_replicate_zero⟩

/-- The data bits of a register's bytes, bit-reversed and high byte first, are its bits from the top. -/
theorem dataBits_reversed_bytes (c : Half) :
    dataBits [(hiByte c).reverse, (loByte c).reverse] = (List.range 16).map fun i => c.getLsbD (15 - i) := by
  simp [dataBits, hiByte, loByte, BitVec.getElem_reverse, BitVec.getMsbD_eq_getLsbD, List.range_succ]

/-- Settles O7: the sixteen data bits behind `D` are the register's own. -/
theorem reversedChecksumLeavesZero : Obligations.ReversedChecksumLeavesZero := by
  intro D
  have hzero : crc16 D <<< 16 = 0 := BitVec.shiftLeft_eq_zero (by omega)
  rw [crc16, crcFrom_append, crcFrom, dataBits_reversed_bytes]
  exact (crcBits_own_bits (crc16 D) 16 (le_refl 16)).trans hzero

/-! ### The placed checksum (R81, R82) -/

theorem fillChecksum_length (N : Nat) (F : List Byte) (h : N + 2 ≤ F.length) :
    (fillChecksum N F).length = F.length := by
  simp [fillChecksum]
  omega

theorem fillChecksum_take (N : Nat) (F : List Byte) (h : N + 2 ≤ F.length) : (fillChecksum N F).take N = F.take N := by
  rw [fillChecksum, withChecksum, List.append_assoc, List.take_left' (by simp; omega)]

theorem fillChecksum_drop (N : Nat) (F : List Byte) (h : N + 2 ≤ F.length) :
    (fillChecksum N F).drop N = halfBytes (crc16 (F.take N)) ++ F.drop (N + 2) := by
  rw [fillChecksum, withChecksum, List.append_assoc, List.drop_left' (by simp; omega)]

theorem fillChecksum_drop_after (N : Nat) (F : List Byte) (h : N + 2 ≤ F.length) :
    (fillChecksum N F).drop (N + 2) = F.drop (N + 2) := by
  rw [← List.drop_drop, fillChecksum_drop N F h, List.drop_left' (by simp)]

/-- A buffer whose count byte the checksum does not overwrite passes `checksum_ok` once it is completed. -/
theorem checksumOk_fillChecksum (N : Nat) (F : List Byte) (hN : 0 < N) (h : coveredLen F = some N) :
    checksumOk (fillChecksum N F) = some true := by
  obtain ⟨count, rest, rfl, hcount, hlen⟩ := (coveredLen_eq_some F N).1 h
  have hlong : N + 2 ≤ (count :: rest).length := by simp; omega
  obtain ⟨M, rfl⟩ : ∃ M, N = M + 1 := ⟨N - 1, by omega⟩
  obtain ⟨tail, htail⟩ : ∃ tail, fillChecksum (M + 1) (count :: rest) = count :: tail := ⟨_, rfl⟩
  have hcov : coveredLen (fillChecksum (M + 1) (count :: rest)) = some (M + 1) := by
    have := fillChecksum_length (M + 1) (count :: rest) hlong
    rw [htail] at this ⊢
    simp only [List.length_cons] at this
    exact (coveredLen_eq_some _ _).2 ⟨count, tail, rfl, hcount, by omega⟩
  rw [checksumOk, hcov, Option.map_some, fillChecksum_take _ _ hlong, fillChecksum_drop _ _ hlong,
    List.take_left' (halfBytes_length _), beq_self_eq_true]

/-- Settles O8. -/
theorem placedChecksumValidates : Obligations.PlacedChecksumValidates := by
  intro count rest h3 hlen
  obtain ⟨N, hN⟩ : ∃ N, count.toNat = N + 2 := ⟨count.toNat - 2, by omega⟩
  have hlong : N + 2 ≤ (count :: rest).length := by simp; omega
  have hcov : coveredLen (count :: rest) = some N :=
    (coveredLen_eq_some _ _).2 ⟨count, rest, rfl, hN, by omega⟩
  rw [hN, Nat.add_sub_cancel]
  exact ⟨fillChecksum N (count :: rest), by rw [placeChecksum, hcov, Option.map_some],
    fillChecksum_length N _ hlong, fillChecksum_take N _ hlong, fillChecksum_drop_after N _ hlong,
    checksumOk_fillChecksum N _ (by omega) hcov⟩

end Sys2Proof.Proofs.Checksum

/-! What each instruction does, and that it does nothing else (spec/10_state.md R14, one row of the opcode table
after the other): the five Command Frames, the three tokens, the wake signature, the responses. -/

namespace Sys2Proof.Proofs.Meaning

open Sys2Proof.Machine Sys2Proof.Laws Sys2Proof.Proofs.Encoding Sys2Proof.Proofs.Request Sys2Proof.Proofs.Cleanup

/-! ### The frames `B_BUILD` builds -/

theorem exec_read4 (s : State) (zone : Zone) (za : Half) :
    exec (.read4 zone za) s = .next (s.build .read4 (readFrame false zone za)) := rfl

theorem exec_read32 (s : State) (zone : Zone) (za : Half) :
    exec (.read32 zone za) s = .next (s.build .read32 (readFrame true zone za)) := rfl

theorem exec_genKey (s : State) (slot : Byte) : exec (.genKey slot) s = .next (s.build .genKey (genKeyFrame slot)) :=
  rfl

theorem exec_nonce (s : State) (data : Vector Byte 32) :
    exec (.nonce data) s = .next (s.build .nonce (nonceFrame data)) := rfl

theorem exec_sign (s : State) (slot : Byte) : exec (.sign slot) s = .next (s.build .sign (signFrame slot)) := rfl

theorem readFrame_bytes (wide : Bool) (zone : Zone) (za : Half) :
    readFrame wide zone za = withChecksum (readBody wide zone za) := rfl

theorem genKeyFrame_bytes (slot : Byte) : genKeyFrame slot = withChecksum [0x07, 0x40, 0x00, slot, 0x00] := by
  rw [genKeyFrame_eq, commandFrame, frameBody, loByte_halfOf, hiByte_halfOf]
  rfl

theorem signFrame_bytes (slot : Byte) : signFrame slot = withChecksum [0x07, 0x41, 0x80, slot, 0x00] := by
  rw [signFrame_eq, commandFrame, frameBody, loByte_halfOf, hiByte_halfOf]
  rfl

theorem nonceFrame_bytes (data : Vector Byte 32) :
    nonceFrame data = withChecksum ([0x27, 0x16, 0x03, 0x00, 0x00] ++ data.toList) := by
  have hcount : frameCount data.toList = 0x27 := by simp [frameCount]
  rw [nonceFrame, commandFrame, frameBody, hcount]
  rfl

/-- Building a frame with these bytes before its checksum: `cbuf` starts with the word-address byte and the frame,
and keeps its other bytes. -/
theorem build_writes_frame (s : State) (p : Profile) (body : List Byte) (k : Nat) (hk : body.length + 3 = k) :
    ∃ m : Memory, s.build p (withChecksum body) = { s with cbuf := m, sel := p, seq := .qCrc } ∧
      m.slice 0 k = some ([0x03] ++ body ++ halfBytes (crc16 body)) ∧ ∀ a, k ≤ a → m.read a = s.cbuf.read a := by
  subst hk
  refine ⟨(s.loadFrame (withChecksum body)).cbuf, rfl, ?_, fun a ha => ?_⟩
  · rw [← Nat.add_assoc body.length 2 1, ← withChecksum_length body, loadFrame_slice]
    rfl
  · exact loadFrame_read_beyond s _ a (by rw [withChecksum_length]; exact ha)

/-- Settles O9. -/
theorem readFramesAreBuilt : Obligations.ReadFramesAreBuilt := by
  intro s zone za
  simp only [exec_read4, exec_read32, readFrame_bytes, Host.Outcome.next.injEq]
  exact ⟨build_writes_frame s .read4 (readBody false zone za) 8 rfl,
    build_writes_frame s .read32 (readBody true zone za) 8 rfl⟩

/-- Settles O10. -/
theorem slotFramesAreBuilt : Obligations.SlotFramesAreBuilt := by
  intro s slot
  simp only [exec_genKey, exec_sign, genKeyFrame_bytes, signFrame_bytes, Host.Outcome.next.injEq]
  exact ⟨build_writes_frame s .genKey _ 8 rfl, build_writes_frame s .sign _ 8 rfl⟩

/-- Settles O11: 5 bytes before the data and 2 behind, so that the frame fills `cbuf`. -/
theorem nonceFrameIsBuilt : Obligations.NonceFrameIsBuilt := by
  intro s data
  simp only [exec_nonce, nonceFrame_bytes, Host.Outcome.next.injEq]
  exact build_writes_frame s .nonce _ 40 (by simp)

/-! ### The tokens -/

/-- One byte read from a buffer. -/
theorem bufRead_one (cap : Nat) (m : Memory) (a : Nat) (b : Byte) (ha : a + 1 ≤ cap) (h : m.read a = some b) :
    bufRead cap m a 1 = .ok [b] :=
  (bufRead_eq_ok _ _ _ _ _).2 ⟨ha, by simp [Memory.slice, h]⟩

/-- Settles O12. -/
theorem wakePulseWritesZeroToAddressZero : Obligations.WakePulseWritesZeroToAddressZero := fun _ => rfl

/-- The Sleep token at the end of a command: a standalone SLEEP looks at the result of the write, no other command
does (R113, R154). -/
theorem execSleepToken_end (s : State) (h : s.seq ≠ .wResleep) : execSleepToken s =
    if s.op = .sleep then
      if s.bus.writeRes = .ok then .next (((s.busWrite s.addr [waSleep]).setDormant).succeed [])
      else .next { (s.busWrite s.addr [waSleep]).setDormant with err := some .io, seq := .done }
    else .next { (s.busWrite s.addr [waSleep]).setDormant with seq := .done } := by
  unfold execSleepToken
  split
  next hre => exact absurd hre h
  next hop hw _ =>
    rw [if_pos hop, hw, if_neg (by decide)]
    simp [raise_eq, hop, Op.composite]
  next hop hw _ => rw [if_pos hop, if_pos hw]
  next hno _ =>
    rw [if_neg]
    intro hop
    cases hw : s.bus.writeRes <;> simp_all

/-- Settles O13. -/
theorem sleepTokenWritesOneAndSetsDormant : Obligations.SleepTokenWritesOneAndSetsDormant := by
  intro s
  refine ⟨fun hseq => execSleepToken_wResleep s hseq, fun hseq hop hw => ?_, fun hseq hop hw => ?_,
    fun hseq hop => ?_⟩
  · exact (execSleepToken_end s hseq).trans (by rw [if_pos hop, hw]; rfl)
  · exact (execSleepToken_end s hseq).trans (by rw [if_pos hop, hw]; rfl)
  · exact (execSleepToken_end s hseq).trans (by rw [if_neg hop]; rfl)

/-- WA_COMMAND where the count byte and the bytes it measures stand in `cbuf` (R120). -/
theorem execWaCommand_eq (s : State) (L : Byte) (bytes : List Byte) (hL : s.cbuf.read 1 = some L)
    (hcap : L.toNat ≤ 39) (hbytes : s.cbuf.slice 0 (L.toNat + 1) = some bytes) : execWaCommand s =
    if s.bus.writeRes = .ok then .next { s.busWrite s.addr bytes with seq := .pWait }
    else .next ((s.busWrite s.addr bytes).failExchange .io) := by
  have hcount : s.cbufRead 1 1 = .ok [L] := bufRead_one _ _ _ _ (by decide) hL
  have hread : s.cbufRead 0 (L.toNat + 1) = .ok bytes :=
    (bufRead_eq_ok _ _ _ _ _).2 ⟨by simp [cmdBufCap]; omega, hbytes⟩
  rw [execWaCommand, hcount, withBytes_ok, List.headD_cons, hread, withBytes_ok]
  cases s.bus.writeRes <;> rfl

/-- Settles O14. -/
theorem waCommandWritesTransmittedBuffer : Obligations.WaCommandWritesTransmittedBuffer := by
  intro s L bytes hL hcap hbytes
  refine ⟨fun hw => ?_, fun hw => ?_⟩
  · exact (execWaCommand_eq s L bytes hL hcap hbytes).trans (by rw [hw]; rfl)
  · exact (execWaCommand_eq s L bytes hL hcap hbytes).trans (by rw [hw]; rfl)

/-! ### What is recognised in bytes read -/

/-- Settles O15. -/
theorem wakeSignatureSetsActive : Obligations.WakeSignatureSetsActive := by
  intro s
  refine ⟨fun hop => ?_, fun hop => ?_⟩
  · exact (execWakeSignature_eq s (.inl hop)).trans (if_pos hop)
  · have hne : s.op ≠ .wakeup := by
      intro h
      simp [h, Op.composite] at hop
    exact (execWakeSignature_eq s (.inr hop)).trans (if_neg hne)

/-- A wrong checksum fails the exchange, whatever command runs (R122). -/
theorem checkResponse_bad (s : State) (body : List Byte) (crc : Half) (h : crc16 body ≠ crc) :
    s.checkResponse body crc = .next { s with crc := crc16 body, err := some .integrity, seq := .xFail } :=
  if_neg h

theorem ne_request_of_composite (op : Op) (h : op.composite = true) : op ≠ .request := by
  rintro rfl
  cases h

/-- Settles O16. -/
theorem responsesPassTheChecksumTest : Obligations.ResponsesPassTheChecksumTest := by
  intro s p payload crc hlen c
  have hexec : exec (responseInstr p payload crc) s = s.checkResponse (responseBody p payload) crc :=
    exec_responseInstr s p payload crc hlen
  refine ⟨fun hok hop => ?_, fun hok hop => ?_, fun hbad => hexec.trans (checkResponse_bad s _ crc hbad)⟩
  · rw [hexec, checkResponse_eq s _ crc (.inl hop)]
    exact (if_pos hok).trans (if_pos hop)
  · rw [hexec, checkResponse_eq s _ crc (.inr hop)]
    exact (if_pos hok).trans (if_neg (ne_request_of_composite _ hop))

end Sys2Proof.Proofs.Meaning

/-! The row `IDLE` of spec/10_state.md R14: which command records are accepted, what is loaded, which are refused
(spec/30_encoding.md R64 to R66). -/

namespace Sys2Proof.Proofs.Accept

open Sys2Proof.Machine Sys2Proof.Laws

/-! ### The select codes -/

/-- Select codes 9 to 15 are the reserved rows, refused with their code. -/
theorem exec_reserved (r : CommandRecord) (h : 9 ≤ r.cmd.toNat) (s : State) :
    exec (decodeCommand r) s = whenIdle s (.refused (.reservedSelect r.cmd.toNat)) := by
  have hlt : r.cmd.toNat < 16 := r.cmd.isLt
  interval_cases hcode : r.cmd.toNat <;> simp only [decodeCommand, hcode] <;> rfl

/-- Select codes 0 to 8 are the host commands. -/
theorem isHostCommand_decodeCommand (r : CommandRecord) (h : r.cmd.toNat < 9) :
    isHostCommand (decodeCommand r) = true := by
  interval_cases hcode : r.cmd.toNat <;> simp only [decodeCommand, hcode] <;> rfl

/-- A host command has a meaning at `IDLE` only (R14). -/
theorem exec_hostCommand_busy (i : Instr) (h : isHostCommand i = true) (s : State) (hs : s.seq ≠ .idle) :
    exec i s = .refused .hostBusy := by
  have hbusy : ∀ o, whenIdle s o = .refused .hostBusy := fun o => by rw [whenIdle_eq, if_neg hs]
  cases i with
  | checksum F => exact hbusy _
  | pollRead addr n typ max => exact hbusy _
  | wakeup addr => exact hbusy _
  | sleep addr => exact hbusy _
  | request addr prof F => exact hbusy _
  | readZone addr zone slot block offset rlen => exact hbusy _
  | readSerial addr => exact hbusy _
  | derivePublicKey addr slot => exact hbusy _
  | signCmd addr slot data => exact hbusy _
  | _ => cases h

/-- Settles O20. -/
theorem reservedSelectCodesAreRefused : Obligations.ReservedSelectCodesAreRefused := by
  intro s hs
  have hidle : ∀ o, whenIdle s o = o := fun o => whenIdle_idle s o hs
  exact ⟨hidle _, hidle _, hidle _, hidle _, hidle _, hidle _, hidle _,
    fun r hr => (exec_reserved r hr s).trans (hidle _)⟩

/-- Settles O21. -/
theorem commandsAreRefusedWhileBusy : Obligations.CommandsAreRefusedWhileBusy := by
  intro s r hs
  by_cases h : r.cmd.toNat < 9
  · exact exec_hostCommand_busy _ (isHostCommand_decodeCommand r h) s hs
  · rw [exec_reserved r (by omega), whenIdle_eq, if_neg hs]

/-! ### Accepted commands -/

/-- Settles O17. -/
theorem commandsAreAcceptedAtIdle : Obligations.CommandsAreAcceptedAtIdle := by
  intro s hs
  have hidle : ∀ o, whenIdle s o = o := fun o => whenIdle_idle s o hs
  exact ⟨fun _ => hidle _, fun _ => hidle _, fun _ _ _ _ _ _ => hidle _, fun _ => hidle _, fun _ _ => hidle _,
    fun _ _ _ => hidle _⟩

section

variable (s : State) (hs : s.seq = .idle)
include hs

theorem exec_checksum_idle (F : List Byte) : exec (.checksum F) s =
    if checksumDefined F then .next { s.accept .checksum with hostBuf := F } else .refused .checksumCount :=
  whenIdle_idle s _ hs

theorem exec_pollRead_idle (addr : Addr) (n : Byte) (typ max : Nat) : exec (.pollRead addr n typ max) s =
    if pollFits n then .next { s.accept .pollRead with addr := addr, n := n, typ := typ, max := max }
    else .refused .pollLength :=
  whenIdle_idle s _ hs

theorem exec_request_idle (addr : Addr) (p : Profile) (F : List Byte) : exec (.request addr p F) s =
    if requestFits F then
      .next { (s.accept .request).loadFrame (requestBody F) with addr := addr, prof := p, sel := p }
    else .refused .requestCount :=
  whenIdle_idle s _ hs

end

theorem pollFits_iff (n : Byte) : pollFits n = true ↔ 1 ≤ n.toNat ∧ n.toNat ≤ 67 := by
  rw [pollFits, Bool.and_eq_true, decide_eq_true_eq, decide_eq_true_eq]
  rfl

theorem checksumDefined_iff (F : List Byte) :
    checksumDefined F = true ↔ F ≠ [] ∧ 2 ≤ (F.headD 0).toNat ∧ (F.headD 0).toNat ≤ F.length := by
  have h := coveredLen_eq_none F
  rw [checksumDefined, Option.isSome_iff_ne_none, ne_eq, h]
  simp only [not_or, not_lt, ne_eq]

/-- What REQUEST takes from the host is as long as the count byte says, whichever of the two lengths `F` has (R120). -/
theorem requestBody_length (F : List Byte) (h : requestFits F = true) :
    (requestBody F).length = (F.headD 0).toNat - 2 := by
  obtain ⟨-, -, -, hlen⟩ := (requestFits_iff F).1 h
  rw [requestBody, List.length_take]
  omega

/-- Settles O18. -/
theorem restrictedCommandsAreAcceptedAtIdle : Obligations.RestrictedCommandsAreAcceptedAtIdle := by
  intro s hs
  refine ⟨fun count rest h2 hlen => ?_, fun a n typ max h1 h67 => ?_, fun a p count rest h7 h39 hlen => ?_⟩
  · rw [exec_checksum_idle s hs, if_pos ((checksumDefined_iff (count :: rest)).2 ⟨by simp, h2, hlen⟩)]
    rfl
  · rw [exec_pollRead_idle s hs, if_pos ((pollFits_iff n).2 ⟨h1, h67⟩)]
    rfl
  · have hfits : requestFits (count :: rest) = true := 
      (requestFits_iff (count :: rest)).2 ⟨by simp, h7, h39, by simpa using hlen⟩
    have hbody : (requestBody (count :: rest)).length + 1 = count.toNat - 1 := by
      rw [requestBody_length _ hfits, List.headD_cons]
      omega
    refine ⟨((s.accept .request).loadFrame (requestBody (count :: rest))).cbuf, ?_, ?_, fun x hx => ?_⟩
    · rw [exec_request_idle s hs, if_pos hfits]
      rfl
    · rw [← hbody, loadFrame_slice]
      rfl
    · rw [loadFrame_read_beyond _ _ x (by omega), accept_cbuf]

/-! ### Refused commands -/

/-- Bytes whose first is not the profile's count are no response (R121). -/
theorem decodeResponse_wrong_count (p : Profile) (bytes : List Byte) (h : (bytes.headD 0).toNat ≠ frameLen p) :
    ∃ e, decodeResponse p bytes = .error e := by
  unfold decodeResponse
  split
  next => exact ⟨_, rfl⟩
  next =>
    split
    next => exact ⟨_, rfl⟩
    next => exact ⟨_, if_pos h⟩

/-- Where no Response Frame stands in `rbuf` the step at `V_CRC` is the sequencer's own (log 16). -/
theorem step_vCrc_unframed (s : State) (hseq : s.seq = .vCrc)
    (h : ∀ bytes, s.rbuf.slice 0 (frameLen s.sel) = some bytes → (bytes.headD 0).toNat ≠ frameLen s.sel) :
    step s = stepVCrc s := by
  cases hread : s.rbufRead 0 (frameLen s.sel) with
  | error f => simp [step, fetch, State.packetAt, hseq, State.responsePacket, hread, seqStep]
  | ok bytes =>
    obtain ⟨e, he⟩ := decodeResponse_wrong_count s.sel bytes (h bytes ((bufRead_eq_ok _ _ _ _ _).1 hread).2)
    simp [step, fetch, State.packetAt, hseq, State.responsePacket, hread, decode, he, seqStep]

/-- At `V_CRC` of an exchange, bytes on which `checksum_ok` is not defined are no response, and the step is refused
(R84). -/
theorem step_vCrc_undefined (s : State) (bytes : List Byte) (hseq : s.seq = .vCrc) (hop : s.op ≠ .pollRead)
    (hslice : s.rbuf.slice 0 (frameLen s.sel) = some bytes) (hcov : coveredLen bytes = none) :
    step s = .refused .checksumCount := by
  have hlen : bytes.length = frameLen s.sel := ((Memory.slice_eq_some _ _ _ _).1 hslice).1
  have hread : s.rbufRead 0 (frameLen s.sel) = .ok bytes :=
    (bufRead_eq_ok _ _ _ _ _).2 ⟨by cases s.sel <;> decide, hslice⟩
  have h4 : 4 ≤ frameLen s.sel := by cases s.sel <;> decide
  have hne : (bytes.headD 0).toNat ≠ frameLen s.sel := by
    rcases (coveredLen_eq_none bytes).1 hcov with rfl | h | h
    · simp only [List.length_nil] at hlen
      omega
    · omega
    · omega
  have hstep : step s = stepVCrc s := step_vCrc_unframed s hseq fun bytes' h' => by
    rw [hslice, Option.some.injEq] at h'
    rwa [← h']
  have hn : s.readLen = frameLen s.sel := if_neg hop
  rw [hstep, stepVCrc, hn, hread, withBytes_ok, checksumDefined, hcov]
  rfl

theorem ite_next_eq_refused (c : Prop) [Decidable c] (t : State) (r : Refusal) :
    (if c then (.next t : Out) else .refused r) = .refused r ↔ ¬c := by
  split <;> simp [*]

/-- Settles O19. -/
theorem undefinedOperandsAreRefused : Obligations.UndefinedOperandsAreRefused := by
  refine ⟨fun s hs => ⟨fun F => ?_, fun a n typ max => ?_, fun a p F => ?_⟩, fun G => ?_,
    fun s bytes hseq hop hslice hno => ?_⟩
  · rw [exec_checksum_idle s hs, ite_next_eq_refused, checksumDefined_iff]
    by_cases hnil : F = []
    · simp [hnil]
    · simp only [hnil, ne_eq, not_false_eq_true, true_and, false_or]
      omega
  · rw [exec_pollRead_idle s hs, ite_next_eq_refused, pollFits_iff]
    omega
  · rw [exec_request_idle s hs, ite_next_eq_refused, requestFits_iff]
    by_cases hnil : F = []
    · simp [hnil]
    · simp only [hnil, ne_eq, not_false_eq_true, true_and, false_or]
      omega
  · rw [checksumOk_eq_none, coveredLen_eq_none]
  · exact step_vCrc_undefined s bytes hseq hop hslice ((checksumOk_eq_none bytes).1 hno)

/-! ### The step that runs a decoded instruction -/

theorem fetch_of_packetAt (s t : State) (p : Packet) (i : Instr) (hp : s.packetAt = some (p, t))
    (hd : decode p = .ok i) : fetch s = some (i, t) := by
  simp [fetch, hp, hd]

/-- Settles O22: at each port, what stands there. -/
theorem stepRunsTheDecodedInstruction : Obligations.StepRunsTheDecodedInstruction := by
  intro s i
  have hrun : ∀ p t, s.packetAt = some (p, t) → decode p = .ok i → step s = exec i t := fun p t hp hd =>
    step_of_fetch s i t (fetch_of_packetAt s t p i hp hd)
  refine ⟨fun r rest hseq hq => hrun _ _ ?_, fun hseq => hrun _ _ ?_, ?_, fun hseq => hrun _ _ ?_,
    fun bytes hseq hr => hrun _ _ ?_, fun j hseq hj => hrun _ _ ?_, fun bytes hseq hslice => hrun _ _ ?_⟩
  · simp [State.packetAt, hseq, hq]
  · simp [State.packetAt, hseq, wakePulseByte]
  · rintro (hseq | hseq)
    · exact hrun _ _ (by simp [State.packetAt, hseq, waSleep])
    · exact hrun _ _ (by simp [State.packetAt, hseq, waSleep])
  · simp [State.packetAt, hseq, waCommandByte]
  · simp [State.packetAt, hseq, hr, State.busReadInto]
  · simp [State.packetAt, hseq, State.builtPacket, hj]
  · have hread : s.rbufRead 0 (frameLen s.sel) = .ok bytes :=
      (bufRead_eq_ok _ _ _ _ _).2 ⟨by cases s.sel <;> decide, hslice⟩
    simp [State.packetAt, hseq, State.responsePacket, hread]

end Sys2Proof.Proofs.Accept

/-! What one step can do, said once (spec/10_state.md R14): `Move s t` lists every way a step from `s` can answer the
next state `t`. The invariants of spec/10_state.md are read off it. -/

namespace Sys2Proof.Proofs.Moves

open Sys2Proof.Machine Sys2Proof.Laws Sys2Proof.Proofs.Encoding Sys2Proof.Proofs.Request Sys2Proof.Proofs.Cleanup
  Sys2Proof.Proofs.Meaning Sys2Proof.Proofs.Accept

/-! ### Error entry, case by case (R156, R157) -/

theorem raise_composite (s : State) (k : ErrKind) (h : s.op.composite = true) :
    s.raise k = .next { s with err := some k, seq := .sSleep } := by
  have hne : s.op ≠ .checksum := by
    intro hop
    simp [hop, Op.composite] at h
  rw [raise_eq, if_neg hne, if_pos h]

theorem raise_standalone (s : State) (k : ErrKind) (hne : s.op ≠ .checksum) (h : s.op.composite = false) :
    s.raise k = .next { s with err := some k, seq := .done } := by
  rw [raise_eq, if_neg hne, if_neg (by simp [h])]

/-! ### Accepting a command -/

/-- What accepting a host command keeps, and what it loads (R14, row `IDLE`). -/
structure Accepted (s t : State) : Prop where
  crc : t.crc = s.crc
  rbuf : t.rbuf = s.rbuf
  elapsed : t.elapsed = s.elapsed
  link : t.link = s.link
  result : t.result = s.result
  out : t.out = s.out
  times : t.times = s.times
  bus : t.bus = s.bus
  busy : t.busy = true
  seq : t.seq = t.op.first
  cbuf : t.cbuf = s.cbuf ∨ ∃ F : List Byte, F.length ≤ 37 ∧ t.cbuf = s.cbuf.writeList 0 (waCommandByte :: F)

theorem idle_of_whenIdle_next {s t : State} {o : Out} (h : whenIdle s o = .next t) : s.seq = .idle := by
  rw [whenIdle_eq] at h
  split at h
  · assumption
  · cases h

theorem next_of_ite_next {c : Prop} [Decidable c] {a t : State} {r : Refusal}
    (h : (if c then (.next a : Out) else .refused r) = .next t) : c ∧ a = t := by
  split at h
  · cases h
    exact ⟨‹c›, rfl⟩
  · cases h

/-- A command that only loads operand registers. -/
theorem accepted_of_whenIdle {s a t : State} (h : whenIdle s (.next a) = .next t) (ha : Accepted s a) :
    Accepted s t := by
  rw [whenIdle_idle s _ (idle_of_whenIdle_next h)] at h
  cases h
  exact ha

theorem accepted_of_exec (i : Instr) (s t : State) (hi : isHostCommand i = true) (h : exec i s = .next t) :
    Accepted s t := by
  cases i with
  | checksum F =>
    rw [exec_checksum_idle s (idle_of_whenIdle_next h)] at h
    obtain ⟨-, rfl⟩ := next_of_ite_next h
    exact ⟨rfl, rfl, rfl, rfl, rfl, rfl, rfl, rfl, rfl, rfl, .inl rfl⟩
  | pollRead addr n typ max =>
    rw [exec_pollRead_idle s (idle_of_whenIdle_next h)] at h
    obtain ⟨-, rfl⟩ := next_of_ite_next h
    exact ⟨rfl, rfl, rfl, rfl, rfl, rfl, rfl, rfl, rfl, rfl, .inl rfl⟩
  | request addr p F =>
    rw [exec_request_idle s (idle_of_whenIdle_next h)] at h
    obtain ⟨hfits, rfl⟩ := next_of_ite_next h
    have hlen : (requestBody F).length ≤ 37 := by
      have hbody := requestBody_length F hfits
      obtain ⟨-, -, h39, -⟩ := (requestFits_iff F).1 hfits
      omega
    exact ⟨rfl, rfl, rfl, rfl, rfl, rfl, rfl, rfl, rfl, rfl, .inr ⟨_, hlen, rfl⟩⟩
  | wakeup addr => exact accepted_of_whenIdle h ⟨rfl, rfl, rfl, rfl, rfl, rfl, rfl, rfl, rfl, rfl, .inl rfl⟩
  | sleep addr => exact accepted_of_whenIdle h ⟨rfl, rfl, rfl, rfl, rfl, rfl, rfl, rfl, rfl, rfl, .inl rfl⟩
  | readZone addr zone slot block offset rlen =>
    exact accepted_of_whenIdle h ⟨rfl, rfl, rfl, rfl, rfl, rfl, rfl, rfl, rfl, rfl, .inl rfl⟩
  | readSerial addr => exact accepted_of_whenIdle h ⟨rfl, rfl, rfl, rfl, rfl, rfl, rfl, rfl, rfl, rfl, .inl rfl⟩
  | derivePublicKey addr slot =>
    exact accepted_of_whenIdle h ⟨rfl, rfl, rfl, rfl, rfl, rfl, rfl, rfl, rfl, rfl, .inl rfl⟩
  | signCmd addr slot data =>
    exact accepted_of_whenIdle h ⟨rfl, rfl, rfl, rfl, rfl, rfl, rfl, rfl, rfl, rfl, .inl rfl⟩
  | _ => cases hi

theorem accepted_of_record (r : CommandRecord) (s t : State) (h : exec (decodeCommand r) s = .next t) :
    Accepted s t := by
  by_cases hr : r.cmd.toNat < 9
  · exact accepted_of_exec _ s t (isHostCommand_decodeCommand r hr) h
  · rw [exec_reserved r (by omega), whenIdle_eq] at h
    split at h <;> cases h

theorem first_ne_idle (op : Op) : op.first ≠ .idle := by cases op <;> simp [Op.first]

/-! ### The ways to move -/

/-- Every way a step can answer a next state, in the order of the rows of R14. -/
inductive Move (s : State) : State → Prop
  | wait (hseq : s.seq = .idle) : Move s s
  | accept (rest : List CommandRecord) (t : State) (hseq : s.seq = .idle)
      (ht : Accepted { s with hostQueue := rest } t) : Move s t
  | argsPass (hseq : s.seq = .aCheck) : Move s { s with seq := .wPulse }
  | argsFail (hseq : s.seq = .aCheck) : Move s { s with err := some .invalidArgument, seq := .done }
  | checksum (N : Nat) (hseq : s.seq = .cRun) (hN : coveredLen s.hostBuf = some N) :
      Move s { s with
        crc := crc16 (s.hostBuf.take N), hostBuf := fillChecksum N s.hostBuf,
        out := halfBytes (crc16 (s.hostBuf.take N)), seq := .done }
  | pulse (hseq : s.seq = .wPulse) : Move s { s.busWrite wakePulseAddr [wakePulseByte] with seq := .wSettle }
  | settle (hseq : s.seq = .wSettle) : Move s { s.delay wakeDelayUs with seq := .wVerify }
  | verifiedWakeup (hseq : s.seq = .wVerify) (hr : s.bus.readRes 4 = .ok wakeSignatureBytes) :
      Move s (((s.busReadInto s.addr 4).setActive).succeed [])
  | verified (hseq : s.seq = .wVerify) (hr : s.bus.readRes 4 = .ok wakeSignatureBytes) :
      Move s { (s.busReadInto s.addr 4).setActive with seq := .bBuild }
  | retryWake (hseq : s.seq = .wVerify) (hr : s.bus.readRes 4 ≠ .ok wakeSignatureBytes) :
      Move s { s.busReadInto s.addr 4 with seq := .wResleep }
  | giveUpWake (hseq : s.seq = .wVerify) (hr : s.bus.readRes 4 ≠ .ok wakeSignatureBytes) :
      Move s { s.busReadInto s.addr 4 with
        err := some .deviceUnavailable, seq := if s.op.composite then .sSleep else .done }
  | resleep (hseq : s.seq = .wResleep) :
      Move s { (s.busWrite s.addr [waSleep]).setDormant with wakeTry := true, seq := .wPulse }
  | build (p : Profile) (F : List Byte) (hseq : s.seq = .bBuild) (hF : F.length ≤ 39) : Move s (s.build p F)
  | placeCrc (L : Byte) (body : List Byte) (hseq : s.seq = .qCrc) (hL : s.cbuf.read 1 = some L) (h2 : 2 ≤ L.toNat)
      (h39 : L.toNat ≤ 39) (hbody : s.cbuf.slice 1 (L.toNat - 2) = some body) :
      Move s { s with
        crc := crc16 body, cbuf := s.cbuf.writeList (L.toNat - 1) (halfBytes (crc16 body)), seq := .qWrite }
  | sent (bytes : List Byte) (hseq : s.seq = .qWrite) (h1 : 1 ≤ bytes.length) (h40 : bytes.length ≤ 40) :
      Move s { s.busWrite s.addr bytes with seq := .pWait }
  | sendFailed (bytes : List Byte) (hseq : s.seq = .qWrite) (h1 : 1 ≤ bytes.length) (h40 : bytes.length ≤ 40) :
      Move s ((s.busWrite s.addr bytes).failExchange .io)
  | waited (hseq : s.seq = .pWait) : Move s { s.delay s.typUs with elapsed := s.typUs, seq := .pRead }
  | pollAnswered (bytes : List Byte) (hseq : s.seq = .pRead) (hn : readLengthFits s.readLen = true)
      (hr : s.bus.readRes s.readLen = .ok bytes) : Move s ((s.busReadInto s.addr s.readLen).succeed bytes)
  | answered (bytes : List Byte) (hseq : s.seq = .pRead) (hn : readLengthFits s.readLen = true)
      (hr : s.bus.readRes s.readLen = .ok bytes) : Move s { s.busReadInto s.addr s.readLen with seq := .vLen }
  | notAnswered (hseq : s.seq = .pRead) (hn : readLengthFits s.readLen = true)
      (hr : s.bus.readRes s.readLen = .fail) : Move s { s.busReadInto s.addr s.readLen with seq := .pBackoff }
  | backoff (hseq : s.seq = .pBackoff) :
      Move s { s.delay pollIntervalUs with elapsed := s.elapsed + pollIntervalUs, seq := .pRead }
  | timeout (hseq : s.seq = .pBackoff) :
      Move s { s.delay pollIntervalUs with
        elapsed := s.elapsed + pollIntervalUs, err := some .timeout,
        seq := if s.op = .pollRead then .done else .xFail }
  | countPass (hseq : s.seq = .vLen) : Move s { s with seq := .vCrc }
  | countFail (hseq : s.seq = .vLen) : Move s (s.failExchange .protocol)
  | crcPassRequest (body : List Byte) (hseq : s.seq = .vCrc) (hop : s.op = .request)
      (hbody : s.rbuf.slice 0 (respLen s.sel + 1) = some body) :
      Move s { s with crc := crc16 body, out := body.tail, seq := .done }
  | crcPass (body : List Byte) (hseq : s.seq = .vCrc)
      (hbody : s.op ≠ .pollRead → s.rbuf.slice 0 (respLen s.sel + 1) = some body) :
      Move s { s with crc := crc16 body, seq := .xPayload }
  | crcFail (body : List Byte) (hseq : s.seq = .vCrc)
      (hbody : s.op ≠ .pollRead → s.rbuf.slice 0 (respLen s.sel + 1) = some body) :
      Move s { s with crc := crc16 body, err := some .integrity, seq := .xFail }
  | payload (bytes : List Byte) (hseq : s.seq = .xPayload) (hlen : bytes.length ≤ 64) :
      Move s { s with out := bytes, seq := .sSleep }
  | nextExchange (hseq : s.seq = .xPayload) : Move s { s with exch := true, seq := .bBuild }
  | badStatus (hseq : s.seq = .xPayload) : Move s { s with err := some .protocol, seq := .sSleep }
  | repeatExchange (hseq : s.seq = .xFail) : Move s { s with serialTry := true, err := none, seq := .bBuild }
  | failed (hseq : s.seq = .xFail) : Move s { s with seq := if s.op.composite then .sSleep else .done }
  | slept (hseq : s.seq = .sSleep) : Move s (((s.busWrite s.addr [waSleep]).setDormant).succeed [])
  | sleepFailed (hseq : s.seq = .sSleep) :
      Move s { (s.busWrite s.addr [waSleep]).setDormant with err := some .io, seq := .done }
  | cleanedUp (hseq : s.seq = .sSleep) : Move s { (s.busWrite s.addr [waSleep]).setDormant with seq := .done }
  | finish (hseq : s.seq = .done) : Move s s.finish

/-! ### Each row of R14 answers with one of its moves -/

section

variable (s t : State)

theorem move_idle (hseq : s.seq = .idle) (h : step s = .next t) : Move s t := by
  cases hq : s.hostQueue with
  | nil =>
    rw [step_idle_wait s hseq hq] at h
    cases h
    exact .wait hseq
  | cons r rest =>
    rw [step_idle_command s r rest hseq hq] at h
    exact .accept rest t hseq (accepted_of_record r _ t h)

theorem move_aCheck (hseq : s.seq = .aCheck) (h : step s = .next t) : Move s t := by
  rw [step_aCheck s hseq, stepACheck] at h
  split at h
  next =>
    split at h
    · cases h; exact .argsPass hseq
    · cases h; exact .argsFail hseq
  all_goals cases h
  all_goals exact .argsPass hseq

theorem move_cRun (hseq : s.seq = .cRun) (h : step s = .next t) : Move s t := by
  rw [step_cRun s hseq, stepCRun] at h
  split at h
  next N hN => cases h; exact .checksum N hseq hN
  next => cases h

/-- What a matching signature leads to: the end of WAKEUP or the first exchange. -/
theorem next_of_execWakeSignature (h : execWakeSignature s = .next t) :
    t = s.setActive.succeed [] ∨ t = { s.setActive with seq := .bBuild } := by
  unfold execWakeSignature at h
  split at h <;> cases h
  · exact .inl rfl
  all_goals exact .inr rfl

/-- What a mismatch leads to: the second attempt, or the error. -/
theorem next_of_wakeMismatch (h : wakeMismatch s = .next t) :
    t = { s with seq := .wResleep } ∨
      t = { s with err := some .deviceUnavailable, seq := if s.op.composite then .sSleep else .done } := by
  rw [wakeMismatch, raise_eq] at h
  split at h
  · split at h
    · cases h
    · cases h; exact .inr rfl
  · cases h; exact .inl rfl

theorem move_wVerify (hseq : s.seq = .wVerify) (h : step s = .next t) : Move s t := by
  rw [step_wVerify s hseq] at h
  split at h
  next hr =>
    rcases next_of_execWakeSignature _ t h with rfl | rfl
    · exact .verifiedWakeup hseq hr
    · exact .verified hseq hr
  next hr =>
    rcases next_of_wakeMismatch _ t h with rfl | rfl
    · exact .retryWake hseq hr
    · simpa using Move.giveUpWake hseq hr

theorem commandFrame_length (opcode param1 : Byte) (param2 : Half) (payload : List Byte) :
    (commandFrame opcode param1 param2 payload).length = payload.length + 7 := by
  simp [commandFrame, frameBody]

theorem move_bBuild (hseq : s.seq = .bBuild) (h : step s = .next t) : Move s t := by
  rw [step_bBuild s hseq] at h
  have hbuild : ∀ p F, F.length ≤ 39 → (.next (s.build p F) : Out) = .next t → Move s t := fun p F hF ht => by
    cases ht
    exact .build p F hseq hF
  unfold State.builtFrame at h
  cases hop : s.op with
  | readZone =>
    rw [hop] at h
    by_cases h32 : s.rlen = 32
    · simp only [h32, if_true] at h
      exact hbuild _ _ (by simp [readFrame, commandFrame_length]) h
    · simp only [h32, if_false] at h
      exact hbuild _ _ (by simp [readFrame, commandFrame_length]) h
  | readSerial =>
    rw [hop] at h
    exact hbuild _ _ (by simp [readFrame, commandFrame_length]) h
  | derivePublicKey =>
    rw [hop] at h
    exact hbuild _ _ (by simp [genKeyFrame, commandFrame_length]) h
  | sign =>
    rw [hop] at h
    cases hx : s.exch with
    | true =>
      rw [hx] at h
      exact hbuild _ _ (by simp [signFrame, commandFrame_length]) h
    | false =>
      rw [hx] at h
      exact hbuild _ _ (by simp [nonceFrame, commandFrame_length]) h
  | _ =>
    rw [hop] at h
    cases h

/-- One byte read from `cbuf` is the byte at its index. -/
theorem cbufRead_one (a : Nat) (bs : List Byte) (h : s.cbufRead a 1 = .ok bs) :
    ∃ b, s.cbuf.read a = some b ∧ bs = [b] := by
  obtain ⟨hlen, hread⟩ := (Memory.slice_eq_some _ _ _ _).1 ((bufRead_eq_ok _ _ _ _ _).1 h).2
  obtain ⟨b, rfl⟩ := List.length_eq_one_iff.1 hlen
  exact ⟨b, by simpa using hread 0 (by omega), rfl⟩

/-- Row `Q_CRC` where the count byte stands in `cbuf`. -/
theorem stepQCrc_eq (L : Byte) (hL : s.cbuf.read 1 = some L) : stepQCrc s =
    if 2 ≤ L.toNat ∧ L.toNat + 1 ≤ cmdBufCap then
      withBytes (s.cbufRead 1 (L.toNat - 2)) fun body => .next { s with
        crc := crc16 body, cbuf := s.cbuf.writeList (L.toNat - 1) (halfBytes (crc16 body)), seq := .qWrite }
    else .refused .checksumCount := by
  have hcount : s.cbufRead 1 1 = .ok [L] := bufRead_one _ _ _ _ (by decide) hL
  rw [stepQCrc, hcount, withBytes_ok]
  rfl

theorem move_qCrc (hseq : s.seq = .qCrc) (h : step s = .next t) : Move s t := by
  rw [step_qCrc s hseq] at h
  obtain ⟨L, hL⟩ : ∃ L, s.cbuf.read 1 = some L := by
    rw [stepQCrc, withBytes_eq_next] at h
    obtain ⟨bs, hbs, -⟩ := h
    obtain ⟨L, hL, -⟩ := cbufRead_one s 1 bs hbs
    exact ⟨L, hL⟩
  rw [stepQCrc_eq s L hL] at h
  split at h
  next hfits =>
    obtain ⟨body, hread, h⟩ := (withBytes_eq_next _ _ _).1 h
    cases h
    exact .placeCrc L body hseq hL hfits.1 (Nat.le_of_succ_le_succ hfits.2) ((bufRead_eq_ok _ _ _ _ _).1 hread).2
  next => cases h

theorem move_qWrite (hseq : s.seq = .qWrite) (h : step s = .next t) : Move s t := by
  rw [step_qWrite s hseq, execWaCommand, withBytes_eq_next] at h
  obtain ⟨bs, -, h⟩ := h
  obtain ⟨bytes, hread, h⟩ := (withBytes_eq_next _ _ _).1 h
  obtain ⟨hcap, hslice⟩ := (bufRead_eq_ok _ _ _ _ _).1 hread
  have hlen : bytes.length = (bs.headD 0).toNat + 1 := ((Memory.slice_eq_some _ _ _ _).1 hslice).1
  have h40 : bytes.length ≤ 40 := by
    have hcap' : 0 + ((bs.headD 0).toNat + 1) ≤ 40 := hcap
    omega
  split at h <;> cases h
  · exact .sent bytes hseq (by omega) h40
  · exact .sendFailed bytes hseq (by omega) h40

theorem move_pRead (hseq : s.seq = .pRead) (h : step s = .next t) : Move s t := by
  rw [step_pRead s hseq, stepPRead] at h
  split at h
  next hn =>
    split at h <;> cases h
    next bytes hr _ => exact .pollAnswered bytes hseq hn hr
    next bytes hr _ => exact .answered bytes hseq hn hr
    next hr => exact .notAnswered hseq hn hr
  next => cases h

theorem move_pBackoff (hseq : s.seq = .pBackoff) (h : step s = .next t) : Move s t := by
  have htimeout := Move.timeout hseq
  rw [step_pBackoff s hseq, stepPBackoff] at h
  split at h
  · split at h
    next hop =>
      rw [raise_standalone _ _ (by simp [hop]) (by simp [hop, Op.composite])] at h
      cases h
      rw [if_pos hop] at htimeout
      exact htimeout
    next hop =>
      cases h
      rw [if_neg hop] at htimeout
      exact htimeout
  · cases h
    exact .backoff hseq

theorem move_vLen (hseq : s.seq = .vLen) (h : step s = .next t) : Move s t := by
  rw [step_vLen s hseq, stepVLen, withBytes_eq_next] at h
  obtain ⟨bs, -, h⟩ := h
  split at h <;> cases h
  · exact .countPass hseq
  · exact .countFail hseq

/-- A part of a slice is a slice. -/
theorem slice_part {m : Memory} {k : Nat} {bs : List Byte} (h : m.slice 0 k = some bs) (a n : Nat) (hn : a + n ≤ k) :
    m.slice a n = some ((bs.drop a).take n) := by
  obtain ⟨hlen, hread⟩ := (Memory.slice_eq_some _ _ _ _).1 h
  refine (Memory.slice_eq_some _ _ _ _).2 ⟨by simp; omega, fun j hj => ?_⟩
  rw [List.getElem?_take_of_lt hj, List.getElem?_drop, ← hread (a + j) (by omega), Nat.zero_add]

/-- The first bytes of a slice are a slice. -/
theorem slice_take {m : Memory} {k n : Nat} {bs : List Byte} (h : m.slice 0 k = some bs) (hn : n ≤ k) :
    m.slice 0 n = some (bs.take n) :=
  slice_part h 0 n (by omega)

theorem move_vCrc (hseq : s.seq = .vCrc) (h : step s = .next t) : Move s t := by
  by_cases hresp : ∃ bytes, s.rbuf.slice 0 (frameLen s.sel) = some bytes ∧ (bytes.headD 0).toNat = frameLen s.sel
  · obtain ⟨bytes, hslice, hcount⟩ := hresp
    have hlen := ((Memory.slice_eq_some _ _ _ _).1 hslice).1
    obtain ⟨payload, crc, hp, rfl⟩ := exists_eq_responseFrame s.sel bytes hlen hcount
    have hbody : s.rbuf.slice 0 (respLen s.sel + 1) = some (responseBody s.sel payload) := by
      rw [slice_take hslice (by simp [frameLen]), responseFrame_take_body s.sel payload crc hp]
    rw [step_vCrc s hseq payload crc hp hslice, State.checkResponse] at h
    split at h
    · split at h <;> cases h
      next hop => exact .crcPassRequest _ hseq hop hbody
      all_goals exact .crcPass _ hseq fun _ => hbody
    · cases h
      exact .crcFail _ hseq fun _ => hbody
  · rw [step_vCrc_unframed s hseq fun bytes hslice hcount => hresp ⟨bytes, hslice, hcount⟩, stepVCrc,
      withBytes_eq_next] at h
    obtain ⟨bytes, hread, h⟩ := h
    have hbody : s.op ≠ .pollRead → s.rbuf.slice 0 (respLen s.sel + 1) = some (bytes.take (s.readLen - 2)) := by
      intro hop
      have hn : s.readLen = respLen s.sel + 3 := if_neg hop
      rw [hn] at hread ⊢
      exact slice_take ((bufRead_eq_ok _ _ _ _ _).1 hread).2 (by omega)
    split at h
    · simp only at h
      split at h
      · split at h <;> cases h
        next hop => exact .crcPassRequest _ hseq hop (hbody (by simp [hop]))
        next => exact .crcPass _ hseq hbody
      · cases h
        exact .crcFail _ hseq hbody
    · cases h

theorem payload_length (bytes : List Byte) (h : s.payload = .ok bytes) : bytes.length = respLen s.sel :=
  ((Memory.slice_eq_some _ _ _ _).1 ((bufRead_eq_ok _ _ _ _ _).1 h).2).1

theorem respLen_le (p : Profile) : respLen p ≤ 64 := by cases p <;> decide

theorem serialOf_length_le (B : List Byte) : (serialOf B).length ≤ 9 := by
  simp [serialOf]
  omega

theorem move_xPayload (hseq : s.seq = .xPayload) (h : step s = .next t) : Move s t := by
  have hlen : ∀ bytes, s.payload = .ok bytes → bytes.length ≤ 64 := fun bytes hb =>
    (payload_length s bytes hb).le.trans (respLen_le s.sel)
  rw [step_xPayload s hseq, stepXPayload] at h
  cases hop : s.op with
  | readZone =>
    rw [hop] at h
    obtain ⟨bytes, hb, h⟩ := (withBytes_eq_next _ _ _).1 h
    cases h
    exact .payload _ hseq (hlen bytes hb)
  | readSerial =>
    rw [hop] at h
    obtain ⟨bytes, hb, h⟩ := (withBytes_eq_next _ _ _).1 h
    cases h
    exact .payload _ hseq ((serialOf_length_le bytes).trans (by omega))
  | derivePublicKey =>
    rw [hop] at h
    obtain ⟨bytes, hb, h⟩ := (withBytes_eq_next _ _ _).1 h
    cases h
    exact .payload _ hseq (hlen bytes hb)
  | sign =>
    rw [hop] at h
    obtain ⟨bytes, hb, h⟩ := (withBytes_eq_next _ _ _).1 h
    rw [raise_composite s _ (by simp [hop, Op.composite])] at h
    split at h
    · cases h; exact .payload _ hseq (hlen bytes hb)
    · split at h
      · cases h; exact .nextExchange hseq
      · cases h; exact .badStatus hseq
  | _ =>
    rw [hop] at h
    cases h

theorem move_xFail (hseq : s.seq = .xFail) (h : step s = .next t) : Move s t := by
  rw [step_xFail s hseq, stepXFail] at h
  split at h
  · cases h
    exact .repeatExchange hseq
  · rw [errorEntry_eq] at h
    split at h <;> cases h
    exact .failed hseq

theorem move_sSleep (hseq : s.seq = .sSleep) (h : step s = .next t) : Move s t := by
  rw [step_sSleep s hseq, execSleepToken_end s (by simp [hseq])] at h
  split at h
  · split at h <;> cases h
    · exact .slept hseq
    · exact .sleepFailed hseq
  · cases h
    exact .cleanedUp hseq

/-- A step that answers a next state is one of the moves. -/
theorem move_of_step (h : step s = .next t) : Move s t := by
  cases hseq : s.seq with
  | idle => exact move_idle s t hseq h
  | aCheck => exact move_aCheck s t hseq h
  | cRun => exact move_cRun s t hseq h
  | wPulse => rw [step_wPulse s hseq] at h; cases h; exact .pulse hseq
  | wSettle => rw [step_wSettle s hseq] at h; cases h; exact .settle hseq
  | wVerify => exact move_wVerify s t hseq h
  | wResleep => rw [step_sleepBetweenAttempts s hseq] at h; cases h; exact .resleep hseq
  | bBuild => exact move_bBuild s t hseq h
  | qCrc => exact move_qCrc s t hseq h
  | qWrite => exact move_qWrite s t hseq h
  | pWait => rw [step_pWait s hseq] at h; cases h; exact .waited hseq
  | pRead => exact move_pRead s t hseq h
  | pBackoff => exact move_pBackoff s t hseq h
  | vLen => exact move_vLen s t hseq h
  | vCrc => exact move_vCrc s t hseq h
  | xPayload => exact move_xPayload s t hseq h
  | xFail => exact move_xFail s t hseq h
  | sSleep => exact move_sSleep s t hseq h
  | done => rw [step_done_finish s hseq] at h; cases h; exact .finish hseq

end

end Sys2Proof.Proofs.Moves

/-! The invariants of spec/10_state.md, each read off the moves a step can make. -/

namespace Sys2Proof.Proofs.Invariants

open Sys2Proof.Machine Sys2Proof.Laws Sys2Proof.Proofs.Meaning Sys2Proof.Proofs.Accept Sys2Proof.Proofs.Moves

/-! ### The bus -/

/-- Settles O24. -/
theorem eachBusStateAppendsOneEvent : Obligations.EachBusStateAppendsOneEvent := by
  intro s t h
  have hmove := move_of_step s t h
  clear h
  cases hmove
  case accept rest hseq ht => simp [hseq, Seq.touchesBus, ht.bus]
  all_goals simp [*, Seq.touchesBus]

/-- A read the block makes in a wake verification or a poll. -/
theorem eventAllowed_read (s : State) (n : Nat) (h1 : 1 ≤ n) (h67 : n ≤ 67) :
    eventAllowed s.addr (.read s.addr n (s.bus.readRes n)) :=
  ⟨rfl, h1, h67, fun bytes => bus_readRes_length s.bus n bytes⟩

theorem readLengthFits_iff (n : Nat) : readLengthFits n = true ↔ 1 ≤ n ∧ n ≤ 67 := by
  rw [readLengthFits, Bool.and_eq_true, decide_eq_true_eq, decide_eq_true_eq]
  rfl

/-- Settles O25. -/
theorem eventsAddressOnlyTheDeviceOrZero : Obligations.EventsAddressOnlyTheDeviceOrZero := by
  intro s t e h he
  have hmove := move_of_step s t h
  clear h
  have hsleep : eventAllowed s.addr (.write s.addr [waSleep] s.bus.writeRes) := .inr ⟨rfl, by decide, by decide⟩
  have hverify : eventAllowed s.addr (.read s.addr 4 (s.bus.readRes 4)) :=
    eventAllowed_read s 4 (by decide) (by decide)
  have hpoll : readLengthFits s.readLen = true →
      eventAllowed s.addr (.read s.addr s.readLen (s.bus.readRes s.readLen)) := fun hn =>
    eventAllowed_read s _ ((readLengthFits_iff _).1 hn).1 ((readLengthFits_iff _).1 hn).2
  cases hmove
  case accept rest hseq ht => simp [ht.bus] at he
  case pulse hseq =>
    simp at he
    subst he
    exact .inl ⟨rfl, rfl⟩
  case sent bytes hseq h1 h40 =>
    simp at he
    subst he
    exact .inr ⟨rfl, h1, h40⟩
  case sendFailed bytes hseq h1 h40 =>
    simp at he
    subst he
    exact .inr ⟨rfl, h1, h40⟩
  all_goals simp at he
  all_goals subst he
  case settle hseq => trivial
  case waited hseq => trivial
  case backoff hseq => trivial
  case timeout hseq => trivial
  case pollAnswered bytes hseq hn hr => exact hpoll hn
  case answered bytes hseq hn hr => exact hpoll hn
  case notAnswered hseq hn hr => exact hpoll hn
  all_goals assumption

/-! ### Registers -/

/-- Settles O26: only accepting a command loads operands, and it keeps the profile table. -/
theorem operandsAreReadOnlyWhileRunning : Obligations.OperandsAreReadOnlyWhileRunning := by
  intro s t h
  have hmove := move_of_step s t h
  clear h
  cases hmove
  case accept rest hseq ht => exact ⟨ht.times, fun hne => absurd hseq hne⟩
  all_goals simp [sameOperands]

/-- Settles O28. -/
theorem responseBufferHoldsTheLastRead : Obligations.ResponseBufferHoldsTheLastRead := by
  intro s t h
  have hread : ∀ n, (s.bus.readRes n = .fail → (s.busReadInto s.addr n).rbuf = s.rbuf) ∧
      (∀ bytes, s.bus.readRes n = .ok bytes → (s.busReadInto s.addr n).rbuf.slice 0 n = some bytes ∧
        ∀ a, n ≤ a → (s.busReadInto s.addr n).rbuf.read a = s.rbuf.read a) := by
    intro n
    refine ⟨busReadInto_rbuf_fail s s.addr n, fun bytes hr => ?_⟩
    have hlen := bus_readRes_length s.bus n bytes hr
    rw [busReadInto_rbuf_ok s s.addr n bytes hr]
    refine ⟨by rw [← hlen, Memory.slice_writeList], fun a ha => ?_⟩
    rw [Memory.read_writeList, if_neg (by omega)]
  have hmove := move_of_step s t h
  clear h
  have hverify := hread 4
  have hpoll := hread s.readLen
  cases hmove
  case accept rest hseq ht => simp [hseq, ht.rbuf]
  all_goals simp_all

/-- Settles O29. -/
theorem elapsedCountsDelayArguments : Obligations.ElapsedCountsDelayArguments := by
  intro s t h
  have hmove := move_of_step s t h
  clear h
  cases hmove
  case accept rest hseq ht => simp [hseq, ht.elapsed]
  all_goals simp [*, pollIntervalUs]

/-- Settles O30. -/
theorem resultIsPresentedAtDone : Obligations.ResultIsPresentedAtDone := by
  intro s t h
  have hmove := move_of_step s t h
  clear h
  cases hmove
  case accept rest hseq ht => simp [hseq, ht.result]
  case finish hseq => exact ⟨fun hne => absurd hseq hne, fun _ => ⟨rfl, rfl, fun he => by simp [he],
    fun k he => by simp [he]⟩⟩
  all_goals simp [*]

/-- Settles O31. -/
theorem linkHasTwoTransitions : Obligations.LinkHasTwoTransitions := by
  intro s t h
  have hmove := move_of_step s t h
  clear h
  cases hmove
  case accept rest hseq ht => simp [hseq, ht.link]
  all_goals simp_all [wakeSignatureBytes]

/-! ### Capacities -/

/-- The bytes a read leaves in `rbuf` fit it. -/
theorem busReadInto_rbuf_wf (s : State) (n : Nat) (hn : n ≤ 67) (h : Memory.wf 67 s.rbuf = true) :
    Memory.wf 67 (s.busReadInto s.addr n).rbuf = true := by
  cases hr : s.bus.readRes n with
  | fail => rwa [busReadInto_rbuf_fail s _ n hr]
  | ok bytes =>
    rw [busReadInto_rbuf_ok s _ n bytes hr]
    exact Memory.writeList_wf 67 0 s.rbuf bytes h (by rw [bus_readRes_length _ _ _ hr]; omega)

/-- A frame of at most 39 bytes fits `cbuf` behind the word-address byte. -/
theorem loadFrame_cbuf_wf (m : Memory) (F : List Byte) (hF : F.length ≤ 39) (h : Memory.wf 40 m = true) :
    Memory.wf 40 (m.writeList 0 (waCommandByte :: F)) = true :=
  Memory.writeList_wf 40 0 m _ h (by simp; omega)

/-- Settles O36: the moves that write a buffer write inside it. -/
theorem buffersStayCanonical : Obligations.BuffersStayCanonical := by
  intro s t hc hr h
  have hmove := move_of_step s t h
  clear h
  have hread := fun n hn => busReadInto_rbuf_wf s n hn hr
  have hpoll : readLengthFits s.readLen = true → Memory.wf 67 (s.busReadInto s.addr s.readLen).rbuf = true := fun hn =>
    hread _ ((readLengthFits_iff _).1 hn).2
  cases hmove
  case accept rest hseq ht =>
    rw [ht.rbuf]
    refine ⟨?_, hr⟩
    rcases ht.cbuf with heq | ⟨F, hF, heq⟩
    · rw [heq]; exact hc
    · rw [heq]; exact loadFrame_cbuf_wf s.cbuf F (by omega) hc
  case build p F hseq hF => exact ⟨loadFrame_cbuf_wf s.cbuf F hF hc, hr⟩
  case placeCrc L body hseq hL h2 h39 hbody =>
    exact ⟨Memory.writeList_wf 40 _ s.cbuf _ hc (by rw [halfBytes_length]; omega), hr⟩
  case verifiedWakeup hseq hsig => exact ⟨by simpa using hc, by simpa using hread 4 (by omega)⟩
  case verified hseq hsig => exact ⟨by simpa using hc, by simpa using hread 4 (by omega)⟩
  case retryWake hseq hsig => exact ⟨by simpa using hc, by simpa using hread 4 (by omega)⟩
  case giveUpWake hseq hsig => exact ⟨by simpa using hc, by simpa using hread 4 (by omega)⟩
  case pollAnswered bytes hseq hn _ => exact ⟨by simpa using hc, by simpa using hpoll hn⟩
  case answered bytes hseq hn _ => exact ⟨by simpa using hc, by simpa using hpoll hn⟩
  case notAnswered hseq hn _ => exact ⟨by simpa using hc, by simpa using hpoll hn⟩
  all_goals exact ⟨hc, hr⟩

/-- Settles O37: what a move writes to `out` is the two bytes of a checksum, a payload or what a read returned. -/
theorem outputStaysWithinCapacity : Obligations.OutputStaysWithinCapacity := by
  intro s t ho hres h
  have hmove := move_of_step s t h
  clear h
  cases hmove
  case accept rest hseq ht =>
    rw [ht.out, ht.result]
    exact ⟨ho, hres⟩
  case pollAnswered bytes hseq hn hr =>
    have hlen := bus_readRes_length s.bus _ bytes hr
    exact ⟨by rw [succeed_out, hlen]; exact ((readLengthFits_iff _).1 hn).2, by simpa using hres⟩
  case crcPassRequest body hseq hop hbody =>
    have hlen := ((Memory.slice_eq_some _ _ _ _).1 hbody).1
    have hle := respLen_le s.sel
    exact ⟨by simp only [List.length_tail]; omega, hres⟩
  case payload bytes hseq hlen => exact ⟨by simp only; omega, hres⟩
  case finish hseq =>
    refine ⟨ho, ?_⟩
    cases he : s.err with
    | none => simpa [he, Result.bytes] using ho
    | some k => simp [he, Result.bytes]
  all_goals simp_all

/-- Settles O38. -/
theorem busyExactlyWhenNotIdle : Obligations.BusyExactlyWhenNotIdle := by
  intro s t hinv h
  have hmove := move_of_step s t h
  clear h
  cases hmove
  case wait hseq => exact hinv
  case accept rest hseq ht => simp [ht.busy, ht.seq, first_ne_idle]
  case giveUpWake hseq hr => simp [hinv, hseq]; split <;> simp
  case timeout hseq => simp [hinv, hseq]; split <;> simp
  case failed hseq => simp [hinv, hseq]; split <;> simp
  all_goals simp_all

end Sys2Proof.Proofs.Invariants

/-! No step reads the checksum register or `link` (spec/10_state.md R11, R17): with other values in them every step has
the same outcome, up to these two registers. -/

namespace Sys2Proof.Proofs.Unread

open Sys2Proof.Machine Sys2Proof.Laws Sys2Proof.Proofs.Request Sys2Proof.Proofs.Cleanup Sys2Proof.Proofs.Meaning
  Sys2Proof.Proofs.Accept Sys2Proof.Proofs.Moves Sys2Proof.Proofs.Invariants

/-- The state with other values, where given, in the checksum register and in `link`. -/
def veil (c : Option Half) (l : Option Link) (s : State) : State :=
  { s with crc := c.getD s.crc, link := l.getD s.link }

/-- What a function of the state makes of an outcome. -/
def mapNext (g : State → State) : Out → Out
  | .next t => .next (g t)
  | .fault f => .fault f
  | .refused r => .refused r

/-- The second outcome is the first one with the given values still in the two registers, or overwritten. -/
def Alike (c : Option Half) (l : Option Link) (o o' : Out) : Prop :=
  ∃ c' l', (c' = c ∨ c' = none) ∧ (l' = l ∨ l' = none) ∧ o' = mapNext (veil c' l') o

section

variable (c : Option Half) (l : Option Link) (s : State)

theorem alike_of_kept {o o' : Out} (h : o' = mapNext (veil c l) o) : Alike c l o o' :=
  ⟨c, l, .inl rfl, .inl rfl, h⟩

theorem alike_of_crc_written {o o' : Out} (h : o' = mapNext (veil none l) o) : Alike c l o o' :=
  ⟨none, l, .inr rfl, .inl rfl, h⟩

theorem alike_of_link_written {o o' : Out} (h : o' = mapNext (veil c none) o) : Alike c l o o' :=
  ⟨c, none, .inl rfl, .inr rfl, h⟩

theorem mapNext_withBytes (g : State → State) (r : Except Fault (List Byte)) (k k' : List Byte → Out)
    (h : ∀ bs, k' bs = mapNext g (k bs)) : withBytes r k' = mapNext g (withBytes r k) := by
  cases r with
  | ok bs => exact h bs
  | error f => rfl

theorem mapNext_ite (g : State → State) (p : Prop) [Decidable p] (o o' : Out) :
    mapNext g (if p then o else o') = if p then mapNext g o else mapNext g o' := by
  split <;> rfl

theorem mapNext_whenIdle (g : State → State) (t : State) (o : Out) :
    mapNext g (whenIdle t o) = whenIdle t (mapNext g o) := by
  rw [whenIdle_eq, whenIdle_eq, mapNext_ite]
  rfl

theorem veil_op : (veil c l s).op = s.op := rfl

theorem veil_serialTry : (veil c l s).serialTry = s.serialTry := rfl

theorem veil_addr : (veil c l s).addr = s.addr := rfl

theorem veil_bus : (veil c l s).bus = s.bus := rfl

theorem veil_readLen : (veil c l s).readLen = s.readLen := rfl

theorem veil_hostBuf : (veil c l s).hostBuf = s.hostBuf := rfl

theorem whenIdle_veil (o : Out) : whenIdle (veil c l s) o = whenIdle s o := rfl

theorem busReadInto_veil (a : Addr) (n : Nat) : (veil c l s).busReadInto a n = veil c l (s.busReadInto a n) := by
  simp only [State.busReadInto, veil_bus]
  cases s.bus.readRes n <;> rfl

theorem raise_veil (k : ErrKind) : (veil c l s).raise k = mapNext (veil c l) (s.raise k) := by
  rw [raise_eq, raise_eq, mapNext_ite]
  rfl

theorem errorEntry_veil : (veil c l s).errorEntry = mapNext (veil c l) s.errorEntry := by
  rw [errorEntry_eq, errorEntry_eq, mapNext_ite]
  rfl

/-- Accepting or refusing a command looks at neither register. -/
theorem exec_hostCommand_veil (i : Instr) (hi : isHostCommand i = true) :
    exec i (veil c l s) = mapNext (veil c l) (exec i s) := by
  have hrow : ∀ o o', o' = mapNext (veil c l) o → whenIdle (veil c l s) o' = mapNext (veil c l) (whenIdle s o) :=
    fun o o' h => by rw [mapNext_whenIdle, h, whenIdle_veil]
  cases i with
  | checksum F => exact hrow _ _ (by rw [mapNext_ite]; rfl)
  | pollRead addr n typ max => exact hrow _ _ (by rw [mapNext_ite]; rfl)
  | request addr prof F => exact hrow _ _ (by rw [mapNext_ite]; rfl)
  | wakeup addr => exact hrow _ _ rfl
  | sleep addr => exact hrow _ _ rfl
  | readZone addr zone slot block offset rlen => exact hrow _ _ rfl
  | readSerial addr => exact hrow _ _ rfl
  | derivePublicKey addr slot => exact hrow _ _ rfl
  | signCmd addr slot data => exact hrow _ _ rfl
  | _ => cases hi

theorem exec_record_veil (r : CommandRecord) :
    exec (decodeCommand r) (veil c l s) = mapNext (veil c l) (exec (decodeCommand r) s) := by
  by_cases hr : r.cmd.toNat < 9
  · exact exec_hostCommand_veil c l s _ (isHostCommand_decodeCommand r hr)
  · rw [exec_reserved r (by omega), exec_reserved r (by omega), mapNext_whenIdle]
    rfl

theorem stepACheck_veil : stepACheck (veil c l s) = mapNext (veil c l) (stepACheck s) := by
  simp only [stepACheck, veil_op]
  cases s.op with
  | readZone => rw [mapNext_ite]; rfl
  | _ => rfl

theorem stepCRun_veil : stepCRun (veil c l s) = mapNext (veil none l) (stepCRun s) := by
  simp only [stepCRun, veil_hostBuf]
  cases coveredLen s.hostBuf <;> rfl

theorem wakeMismatch_veil : wakeMismatch (veil c l s) = mapNext (veil c l) (wakeMismatch s) := by
  rw [wakeMismatch, wakeMismatch, mapNext_ite, raise_veil]
  rfl

theorem execWakeSignature_veil : execWakeSignature (veil c l s) = mapNext (veil c none) (execWakeSignature s) := by
  simp only [execWakeSignature, veil_op]
  cases s.op <;> rfl

theorem execSleepToken_veil : execSleepToken (veil c l s) = mapNext (veil c none) (execSleepToken s) := by
  by_cases h : s.seq = .wResleep
  · rw [execSleepToken_wResleep s h, execSleepToken_wResleep (veil c l s) h]
    rfl
  · rw [execSleepToken_end s h, execSleepToken_end (veil c l s) h, mapNext_ite, veil_bus, veil_addr]
    congr 1
    cases s.bus.writeRes <;> rfl

/-- The frames of `B_BUILD` are made of operand registers. -/
theorem step_bBuild_veil (h : s.seq = .bBuild) : step (veil c l s) = mapNext (veil c l) (step s) := by
  rw [step_bBuild s h, step_bBuild (veil c l s) h]
  have hframe : (veil c l s).builtFrame = s.builtFrame := rfl
  rw [hframe, State.builtFrame]
  cases s.op with
  | readZone => by_cases h32 : s.rlen = 32 <;> simp only [h32, if_true, if_false] <;> rfl
  | sign => cases s.exch <;> rfl
  | _ => rfl

theorem stepQCrc_veil : stepQCrc (veil c l s) = mapNext (veil none l) (stepQCrc s) := by
  refine mapNext_withBytes _ _ _ _ fun count => ?_
  dsimp only
  split
  · exact mapNext_withBytes _ _ _ _ fun body => rfl
  · rfl

theorem execWaCommand_veil : execWaCommand (veil c l s) = mapNext (veil c l) (execWaCommand s) := by
  refine mapNext_withBytes _ _ _ _ fun count => mapNext_withBytes _ _ _ _ fun bytes => ?_
  simp only [veil_bus, veil_addr]
  cases s.bus.writeRes <;> rfl

theorem stepPRead_veil : stepPRead (veil c l s) = mapNext (veil c l) (stepPRead s) := by
  rw [stepPRead, stepPRead, mapNext_ite, veil_readLen, veil_addr, veil_bus, veil_op, busReadInto_veil]
  congr 1
  cases s.bus.readRes s.readLen <;> cases s.op <;> rfl

theorem stepPBackoff_veil : stepPBackoff (veil c l s) = mapNext (veil c l) (stepPBackoff s) := by
  rw [stepPBackoff, stepPBackoff, mapNext_ite, veil_op]
  congr 1
  cases s.op with
  | pollRead =>
    exact raise_veil c l { s.delay pollIntervalUs with elapsed := s.elapsed + pollIntervalUs } .timeout
  | _ => rfl

theorem stepVLen_veil : stepVLen (veil c l s) = mapNext (veil c l) (stepVLen s) :=
  mapNext_withBytes _ _ _ _ fun count => by
    rw [mapNext_ite]
    rfl

theorem checkResponse_veil (body : List Byte) (crc : Half) :
    (veil c l s).checkResponse body crc = mapNext (veil none l) (s.checkResponse body crc) := by
  rw [State.checkResponse, State.checkResponse, mapNext_ite, veil_op]
  cases s.op <;> rfl

theorem stepVCrc_veil : stepVCrc (veil c l s) = mapNext (veil none l) (stepVCrc s) :=
  mapNext_withBytes _ _ _ _ fun bytes => by
    rw [mapNext_ite, mapNext_ite, veil_op]
    cases s.op <;> rfl

/-- Both runs find the same bytes in `rbuf`. -/
theorem step_vCrc_veil (h : s.seq = .vCrc) : step (veil c l s) = mapNext (veil none l) (step s) := by
  by_cases hresp : ∃ bytes, s.rbuf.slice 0 (frameLen s.sel) = some bytes ∧ (bytes.headD 0).toNat = frameLen s.sel
  · obtain ⟨bytes, hslice, hcount⟩ := hresp
    have hlen := ((Memory.slice_eq_some _ _ _ _).1 hslice).1
    obtain ⟨payload, crc, hp, rfl⟩ := exists_eq_responseFrame s.sel bytes hlen hcount
    rw [step_vCrc s h payload crc hp hslice, step_vCrc (veil c l s) h payload crc hp hslice]
    exact checkResponse_veil c l s _ crc
  · have hno : ∀ bytes, s.rbuf.slice 0 (frameLen s.sel) = some bytes → (bytes.headD 0).toNat ≠ frameLen s.sel :=
      fun bytes hslice hcount => hresp ⟨bytes, hslice, hcount⟩
    rw [step_vCrc_unframed s h hno, step_vCrc_unframed (veil c l s) h hno]
    exact stepVCrc_veil c l s

theorem stepXPayload_veil : stepXPayload (veil c l s) = mapNext (veil c l) (stepXPayload s) := by
  rw [stepXPayload, stepXPayload, veil_op]
  cases s.op with
  | readZone => exact mapNext_withBytes _ _ _ _ fun _ => rfl
  | readSerial => exact mapNext_withBytes _ _ _ _ fun _ => rfl
  | derivePublicKey => exact mapNext_withBytes _ _ _ _ fun _ => rfl
  | sign =>
    refine mapNext_withBytes _ _ _ _ fun bytes => ?_
    rw [mapNext_ite, mapNext_ite, ← raise_veil]
    rfl
  | _ => rfl

theorem stepXFail_veil : stepXFail (veil c l s) = mapNext (veil c l) (stepXFail s) := by
  rw [stepXFail, stepXFail, veil_op, veil_serialTry, errorEntry_veil]
  cases s.op <;> cases s.serialTry <;> rfl

/-- No step reads the checksum register or `link`. -/
theorem step_alike : Alike c l (step s) (step (veil c l s)) := by
  cases h : s.seq with
  | idle =>
    cases hq : s.hostQueue with
    | nil =>
      rw [step_idle_wait s h hq, step_idle_wait (veil c l s) h hq]
      exact alike_of_kept c l rfl
    | cons r rest =>
      rw [step_idle_command s r rest h hq, step_idle_command (veil c l s) r rest h hq]
      exact alike_of_kept c l (exec_record_veil c l { s with hostQueue := rest } r)
  | aCheck =>
    rw [step_aCheck s h, step_aCheck (veil c l s) h]
    exact alike_of_kept c l (stepACheck_veil c l s)
  | cRun =>
    rw [step_cRun s h, step_cRun (veil c l s) h]
    exact alike_of_crc_written c l (stepCRun_veil c l s)
  | wPulse =>
    rw [step_wPulse s h, step_wPulse (veil c l s) h]
    exact alike_of_kept c l rfl
  | wSettle =>
    rw [step_wSettle s h, step_wSettle (veil c l s) h]
    exact alike_of_kept c l rfl
  | wVerify =>
    rw [step_wVerify s h, step_wVerify (veil c l s) h, veil_addr, veil_bus, busReadInto_veil]
    by_cases hr : s.bus.readRes 4 = .ok wakeSignatureBytes
    · rw [if_pos hr, if_pos hr]
      exact alike_of_link_written c l (execWakeSignature_veil c l _)
    · rw [if_neg hr, if_neg hr]
      exact alike_of_kept c l (wakeMismatch_veil c l _)
  | wResleep =>
    rw [step_wResleep s h, step_wResleep (veil c l s) h]
    exact alike_of_link_written c l (execSleepToken_veil c l s)
  | bBuild => exact alike_of_kept c l (step_bBuild_veil c l s h)
  | qCrc =>
    rw [step_qCrc s h, step_qCrc (veil c l s) h]
    exact alike_of_crc_written c l (stepQCrc_veil c l s)
  | qWrite =>
    rw [step_qWrite s h, step_qWrite (veil c l s) h]
    exact alike_of_kept c l (execWaCommand_veil c l s)
  | pWait =>
    rw [step_pWait s h, step_pWait (veil c l s) h]
    exact alike_of_kept c l rfl
  | pRead =>
    rw [step_pRead s h, step_pRead (veil c l s) h]
    exact alike_of_kept c l (stepPRead_veil c l s)
  | pBackoff =>
    rw [step_pBackoff s h, step_pBackoff (veil c l s) h]
    exact alike_of_kept c l (stepPBackoff_veil c l s)
  | vLen =>
    rw [step_vLen s h, step_vLen (veil c l s) h]
    exact alike_of_kept c l (stepVLen_veil c l s)
  | vCrc => exact alike_of_crc_written c l (step_vCrc_veil c l s h)
  | xPayload =>
    rw [step_xPayload s h, step_xPayload (veil c l s) h]
    exact alike_of_kept c l (stepXPayload_veil c l s)
  | xFail =>
    rw [step_xFail s h, step_xFail (veil c l s) h]
    exact alike_of_kept c l (stepXFail_veil c l s)
  | sSleep =>
    rw [step_sSleep s h, step_sSleep (veil c l s) h]
    exact alike_of_link_written c l (execSleepToken_veil c l s)
  | done =>
    rw [step_done s h, step_done (veil c l s) h]
    exact alike_of_kept c l rfl

end

/-- With another value in `link` alone. -/
theorem step_other_link (s : State) (l : Link) :
    ∃ l' : Option Link, step { s with link := l } = mapNext (veil none l') (step s) := by
  obtain ⟨c', l', hc, -, h⟩ := step_alike none (some l) s
  obtain rfl : c' = none := by simpa using hc
  exact ⟨l', h⟩

/-- With another value in the checksum register alone. -/
theorem step_other_crc (s : State) (c : Half) :
    ∃ c' : Option Half, step { s with crc := c } = mapNext (veil c' none) (step s) := by
  obtain ⟨c', l', -, hl, h⟩ := step_alike (some c) none s
  obtain rfl : l' = none := by simpa using hl
  exact ⟨c', h⟩

/-- Settles O32. -/
theorem sleepByteSetsDormantAndLinkIsNeverRead : Obligations.SleepByteSetsDormantAndLinkIsNeverRead := by
  refine ⟨fun s hseq => ?_, fun s t l h => ?_, fun s f l h => ?_, fun s r l h => ?_⟩
  · rcases hseq with hseq | hseq
    · exact ⟨_, step_sleepBetweenAttempts s hseq, rfl, rfl⟩
    · rw [step_sSleep s hseq, execSleepToken_end s (by simp [hseq])]
      split
      · cases s.bus.writeRes <;> exact ⟨_, rfl, rfl, rfl⟩
      · exact ⟨_, rfl, rfl, rfl⟩
  · obtain ⟨l', hstep⟩ := step_other_link s l
    rw [h] at hstep
    exact ⟨l'.getD t.link, hstep⟩
  · obtain ⟨l', hstep⟩ := step_other_link s l
    rwa [h] at hstep
  · obtain ⟨l', hstep⟩ := step_other_link s l
    rwa [h] at hstep

/-- Settles O27: `crc` is written by the moves of the three rows, and read by none. -/
theorem checksumRegisterIsWrittenOnlyByCrc16 : Obligations.ChecksumRegisterIsWrittenOnlyByCrc16 := by
  intro s t h
  have hunread : ∀ c : Half, ∃ c', step { s with crc := c } = .next { t with crc := c' } := fun c => by
    obtain ⟨c', hstep⟩ := step_other_crc s c
    rw [h] at hstep
    exact ⟨c'.getD t.crc, hstep⟩
  have hmove := move_of_step s t h
  clear h
  cases hmove
  case accept rest hseq ht => exact ⟨fun _ _ _ => ht.crc, by simp [hseq], by simp [hseq], by simp [hseq], hunread⟩
  case checksum N hseq hN =>
    obtain ⟨count, rest, hbuf, hcount, -⟩ := (coveredLen_eq_some _ _).1 hN
    refine ⟨by simp [hseq], fun _ => ?_, by simp [hseq], by simp [hseq], hunread⟩
    simp [hbuf, hcount]
  case placeCrc L body hseq hL h2 h39 hbody =>
    exact ⟨by simp [hseq], by simp [hseq], fun _ => ⟨L, body, hL, hbody, rfl⟩, by simp [hseq], hunread⟩
  case crcPassRequest body hseq hop hbody =>
    exact ⟨by simp [hseq], by simp [hseq], by simp [hseq], fun _ _ => ⟨body, hbody, rfl⟩, hunread⟩
  case crcPass body hseq hbody =>
    exact ⟨by simp [hseq], by simp [hseq], by simp [hseq], fun _ hop => ⟨body, hbody hop, rfl⟩, hunread⟩
  case crcFail body hseq hbody =>
    exact ⟨by simp [hseq], by simp [hseq], by simp [hseq], fun _ hop => ⟨body, hbody hop, rfl⟩, hunread⟩
  all_goals refine ⟨?_, ?_, ?_, ?_, hunread⟩ <;> simp [*]

end Sys2Proof.Proofs.Unread

/-! Rows of R14 whose step reads a buffer, where the bytes they read were written: the step in full. -/

namespace Sys2Proof.Proofs.Rows

open Sys2Proof.Machine Sys2Proof.Laws Sys2Proof.Proofs.Request Sys2Proof.Proofs.Meaning Sys2Proof.Proofs.Moves

/-- The bytes written behind a slice extend it. -/
theorem slice_writeList_behind {m : Memory} {k : Nat} {A : List Byte} (h : m.slice 0 k = some A) (B : List Byte) :
    (m.writeList k B).slice 0 (k + B.length) = some (A ++ B) := by
  obtain ⟨hlen, hread⟩ := (Memory.slice_eq_some _ _ _ _).1 h
  refine (Memory.slice_eq_some _ _ _ _).2 ⟨by simp [hlen], fun j hj => ?_⟩
  rw [Memory.read_writeList, Nat.zero_add]
  by_cases hk : k ≤ j
  · rw [if_pos ⟨hk, hj⟩, List.getElem?_append_right (by omega), hlen]
  · have hold := hread j (by omega)
    rw [Nat.zero_add] at hold
    rw [if_neg (by omega), hold, List.getElem?_append_left (by omega)]

/-- The byte at an index of a slice. -/
theorem read_of_slice {m : Memory} {k : Nat} {bs : List Byte} (h : m.slice 0 k = some bs) (j : Nat) (hj : j < k) :
    m.read j = bs[j]? := by
  have hread := ((Memory.slice_eq_some _ _ _ _).1 h).2 j hj
  rwa [Nat.zero_add] at hread

/-- The frame `count :: rest` without its checksum, behind the byte `wa`, stands at the start of `cbuf`. -/
structure FrameLoaded (m : Memory) (wa count : Byte) (rest : List Byte) : Prop where
  low : 7 ≤ count.toNat
  high : count.toNat ≤ 39
  length : rest.length + 3 = count.toNat
  bytes : m.slice 0 (count.toNat - 1) = some (wa :: count :: rest)

/-- Loading a frame into `cbuf` does so. -/
theorem frameLoaded_writeList (m : Memory) (wa count : Byte) (rest tail : List Byte) (h7 : 7 ≤ count.toNat)
    (h39 : count.toNat ≤ 39) (hlen : rest.length + 3 = count.toNat) :
    FrameLoaded (m.writeList 0 (wa :: count :: rest ++ tail)) wa count rest where
  low := h7
  high := h39
  length := hlen
  bytes := by
    have hwrite := Memory.slice_writeList m 0 (wa :: count :: rest ++ tail)
    have hk : count.toNat - 1 = (wa :: count :: rest).length := by simp; omega
    rw [hk, slice_take hwrite (by simp), List.take_left' rfl]

/-- Row `Q_CRC`: the checksum goes behind the frame (R81 on `cbuf[1..40)`). -/
theorem step_qCrc_frame (s : State) (wa count : Byte) (rest : List Byte) (hseq : s.seq = .qCrc)
    (h : FrameLoaded s.cbuf wa count rest) : step s = .next { s with
      crc := crc16 (count :: rest),
      cbuf := s.cbuf.writeList (count.toNat - 1) (halfBytes (crc16 (count :: rest))), seq := .qWrite } := by
  obtain ⟨h7, h39, hlen, hbytes⟩ := h
  have hL : s.cbuf.read 1 = some count := read_of_slice hbytes 1 (by omega)
  have hbody : s.cbufRead 1 (count.toNat - 2) = .ok (count :: rest) := by
    refine (bufRead_eq_ok _ _ _ _ _).2 ⟨by simp [cmdBufCap]; omega, ?_⟩
    rw [slice_part hbytes 1 (count.toNat - 2) (by omega), List.drop_one, List.tail_cons,
      List.take_of_length_le (by simp; omega)]
  have hfits : 2 ≤ count.toNat ∧ count.toNat + 1 ≤ cmdBufCap := ⟨by omega, by simp [cmdBufCap]; omega⟩
  rw [step_qCrc s hseq, stepQCrc_eq s count hL, if_pos hfits, hbody, withBytes_ok]

/-- After it the whole transmitted buffer stands in `cbuf`. -/
theorem slice_after_qCrc (m : Memory) (wa count : Byte) (rest : List Byte) (h : FrameLoaded m wa count rest) :
    (m.writeList (count.toNat - 1) (halfBytes (crc16 (count :: rest)))).slice 0 (count.toNat + 1) =
      some (wa :: withChecksum (count :: rest)) := by
  obtain ⟨h7, -, -, hbytes⟩ := h
  have hslice := slice_writeList_behind hbytes (halfBytes (crc16 (count :: rest)))
  rwa [halfBytes_length, show count.toNat - 1 + 2 = count.toNat + 1 by omega] at hslice

/-- Row `Q_WRITE`: the transmitted buffer goes to the device (R120). -/
theorem step_qWrite_frame (s : State) (wa count : Byte) (rest : List Byte) (hseq : s.seq = .qWrite)
    (h39 : count.toNat ≤ 39) (hbytes : s.cbuf.slice 0 (count.toNat + 1) = some (wa :: count :: rest)) : step s =
    if s.bus.writeRes = .ok then .next { s.busWrite s.addr (wa :: count :: rest) with seq := .pWait }
    else .next ((s.busWrite s.addr (wa :: count :: rest)).failExchange .io) := by
  have hpos : 1 < count.toNat + 1 := by
    have hlen := ((Memory.slice_eq_some _ _ _ _).1 hbytes).1
    simp only [List.length_cons] at hlen
    omega
  rw [step_qWrite s hseq, execWaCommand_eq s count _ (read_of_slice hbytes 1 hpos) h39 hbytes]

/-- Row `X_PAYLOAD`: the payload of the response in `rbuf` (R125). -/
theorem payload_of_slice (s : State) (bytes : List Byte) (h : s.rbuf.slice 0 (frameLen s.sel) = some bytes) :
    s.payload = .ok ((bytes.drop 1).take (respLen s.sel)) :=
  (bufRead_eq_ok _ _ _ _ _).2 ⟨by cases s.sel <;> decide, slice_part h 1 _ (by simp [frameLen]; omega)⟩

end Sys2Proof.Proofs.Rows

/-! The states a run passes through (spec/10_state.md R14, R21): from a state whose running command is one the table
brings there, with the bytes the next step reads written, the step answers such a state again, or refuses host input
the spec gives no meaning. -/

namespace Sys2Proof.Proofs.Reach

open Sys2Proof.Machine Sys2Proof.Laws Sys2Proof.Proofs.Encoding Sys2Proof.Proofs.Request Sys2Proof.Proofs.Cleanup
  Sys2Proof.Proofs.Meaning Sys2Proof.Proofs.Accept Sys2Proof.Proofs.Moves Sys2Proof.Proofs.Invariants
  Sys2Proof.Proofs.Rows

/-! ### The frame of each exchange, row `B_BUILD` -/

section

variable (s : State) (hseq : s.seq = .bBuild)
include hseq

theorem step_bBuild_readZone (hop : s.op = .readZone) : step s =
    .next (s.build (zoneProfile s.rlen) (withChecksum
      (readBody (decide (s.rlen = 32)) s.zone (zoneAddress s.zone s.slot s.block s.offset)))) := by
  rw [step_bBuild s hseq, State.builtFrame, hop]
  by_cases h32 : s.rlen = 32
  · simp only [h32, if_true, zoneProfile, decide_true]
    rfl
  · simp only [h32, if_false, zoneProfile, decide_false]
    rfl

theorem step_bBuild_readSerial (hop : s.op = .readSerial) :
    step s = .next (s.build .read32 (withChecksum [0x07, 0x02, 0x80, 0x00, 0x00])) := by
  rw [step_bBuild s hseq, State.builtFrame, hop]
  rfl

theorem step_bBuild_derivePublicKey (hop : s.op = .derivePublicKey) :
    step s = .next (s.build .genKey (withChecksum [0x07, 0x40, 0x00, s.slot, 0x00])) := by
  rw [step_bBuild s hseq, State.builtFrame, hop, ← genKeyFrame_bytes]
  rfl

theorem step_bBuild_nonce (hop : s.op = .sign) (hx : s.exch = false) :
    step s = .next (s.build .nonce (withChecksum ([0x27, 0x16, 0x03, 0x00, 0x00] ++ s.data.toList))) := by
  rw [step_bBuild s hseq, State.builtFrame, hop, hx, ← nonceFrame_bytes]
  rfl

theorem step_bBuild_sign (hop : s.op = .sign) (hx : s.exch = true) :
    step s = .next (s.build .sign (withChecksum [0x07, 0x41, 0x80, s.slot, 0x00])) := by
  rw [step_bBuild s hseq, State.builtFrame, hop, hx, ← signFrame_bytes]
  rfl

end

/-- What `B_BUILD` writes is a frame `Q_CRC` can complete. -/
theorem frameLoaded_build (s : State) (p : Profile) (count : Byte) (rest : List Byte) (h7 : 7 ≤ count.toNat)
    (h39 : count.toNat ≤ 39) (hlen : rest.length + 3 = count.toNat) :
    FrameLoaded (s.build p (withChecksum (count :: rest))).cbuf waCommandByte count rest :=
  frameLoaded_writeList s.cbuf waCommandByte count rest (halfBytes (crc16 (count :: rest))) h7 h39 hlen

/-- What accepting a REQUEST writes is one, too. -/
theorem frameLoaded_request (m : Memory) (F : List Byte) (h : requestFits F = true) :
    ∃ count rest, requestBody F = count :: rest ∧
      FrameLoaded (m.writeList 0 (waCommandByte :: requestBody F)) waCommandByte count rest := by
  have hlen := requestBody_length F h
  obtain ⟨hne, h7, h39, -⟩ := (requestFits_iff F).1 h
  match F with
  | [] => exact absurd rfl hne
  | count :: tail =>
    obtain ⟨k, hk⟩ : ∃ k, count.toNat - 2 = k + 1 := ⟨count.toNat - 3, by simp only [List.headD_cons] at h7; omega⟩
    have hbody : requestBody (count :: tail) = count :: tail.take k := by
      rw [requestBody, List.headD_cons, hk, List.take_succ_cons]
    rw [hbody] at hlen ⊢
    simp only [List.headD_cons, List.length_cons] at hlen h7 h39
    refine ⟨count, tail.take k, rfl, ?_⟩
    simpa using frameLoaded_writeList m waCommandByte count (tail.take k) [] h7 h39 (by omega)

/-! ### The invariant, row by row -/

theorem writtenTo_iff (m : Memory) (k : Nat) : writtenTo m k = true ↔ ∃ bs, m.slice 0 k = some bs :=
  Option.isSome_iff_exists

/-- A frame loaded is what `Q_CRC` needs. -/
theorem reachable_qCrc (t : State) (wa count : Byte) (rest : List Byte) (hseq : t.seq = .qCrc)
    (hop : opAllowed .qCrc t.op = true) (h : FrameLoaded t.cbuf wa count rest) : Reachable t := by
  have hL : t.cbuf.read 1 = some count := read_of_slice h.bytes 1 (by have := h.low; omega)
  have hwritten : writtenTo t.cbuf (count.toNat - 1) = true := (writtenTo_iff _ _).2 ⟨_, h.bytes⟩
  refine ⟨by rw [hseq]; exact hop, ?_⟩
  simp [operandsReady, hseq, hL, h.low, h.high, hwritten]

/-- Where `Q_CRC` has what it needs, a frame is loaded. -/
theorem frameLoaded_of_reachable (s : State) (hseq : s.seq = .qCrc) (h : Reachable s) :
    ∃ wa count rest, FrameLoaded s.cbuf wa count rest := by
  obtain ⟨-, hready⟩ := h
  simp only [operandsReady, hseq] at hready
  split at hready
  next L hL =>
    simp only [Bool.and_eq_true, decide_eq_true_eq, writtenTo_iff] at hready
    obtain ⟨⟨h7, h39⟩, bytes, hbytes⟩ := hready
    have hlen := ((Memory.slice_eq_some _ _ _ _).1 hbytes).1
    match bytes with
    | [] => simp at hlen; omega
    | [_] => simp at hlen; omega
    | wa :: count :: rest =>
      obtain rfl : L = count := by simpa [hL] using read_of_slice hbytes 1 (by omega)
      exact ⟨wa, L, rest, h7, h39, by simp only [List.length_cons] at hlen; omega, hbytes⟩
  next => cases hready

/-- The outcomes the invariant allows: another such state, or the refusal of undefined host input. -/
def Sound (s : State) (o : Out) : Prop :=
  (∃ t, o = .next t ∧ Reachable t) ∨
    ∃ r c rest, o = .refused r ∧ s.seq = .idle ∧ s.hostQueue = c :: rest ∧
      (WellFormed (decodeCommand c) = false ∨ 9 ≤ c.cmd.toNat)

theorem sound_next {s t : State} (h : Reachable t) : Sound s (.next t) := .inl ⟨t, rfl, h⟩

/-- A state whose next step reads nothing. -/
theorem reachable_of_op (t : State) (hop : opAllowed t.seq t.op = true)
    (h : t.seq = .idle ∨ t.seq = .aCheck ∨ t.seq = .wPulse ∨ t.seq = .wSettle ∨ t.seq = .wVerify ∨
      t.seq = .wResleep ∨ t.seq = .bBuild ∨ t.seq = .xFail ∨ t.seq = .sSleep ∨ t.seq = .done) : Reachable t := by
  refine ⟨hop, ?_⟩
  unfold operandsReady
  rcases h with h | h | h | h | h | h | h | h | h | h <;> rw [h]

/-- The polling rows read with a length that fits (R91). -/
theorem reachable_poll (t : State) (hseq : t.seq = .pWait ∨ t.seq = .pRead ∨ t.seq = .pBackoff)
    (hop : opAllowed .pWait t.op = true) (h : t.op = .pollRead → pollFits t.n = true) : Reachable t := by
  have hready : (t.op != .pollRead || pollFits t.n) = true := by
    by_cases hp : t.op = .pollRead
    · simp [h hp]
    · simp [hp]
  rcases hseq with hseq | hseq | hseq <;> exact ⟨by rw [hseq]; exact hop, by simp only [operandsReady, hseq, hready]⟩

/-- An exchange is a REQUEST's or a composite command's. -/
theorem exchange_op {op : Op} (h : (op == .request || op.composite) = true) :
    op = .request ∨ op.composite = true := by
  simpa using h

theorem ne_pollRead_of_exchange {op : Op} (h : op = .request ∨ op.composite = true) : op ≠ .pollRead := by
  rintro rfl
  rcases h with h | h <;> cases h

theorem allowed_pWait_of_exchange {op : Op} (h : op = .request ∨ op.composite = true) :
    opAllowed .pWait op = true := by
  rcases h with rfl | h
  · rfl
  · simp [opAllowed, h]

/-- Where error entry leads keeps the invariant. -/
theorem reachable_error_end (t : State) (h : t.seq = if t.op.composite then .sSleep else .done) : Reachable t := by
  by_cases hc : t.op.composite = true
  · rw [if_pos hc] at h
    exact reachable_of_op t (by simp [h, opAllowed, hc]) (by simp [h])
  · rw [if_neg hc] at h
    exact reachable_of_op t (by simp [h, opAllowed]) (by simp [h])

section

variable (s : State) (hr : Reachable s)

theorem sound_accept (i : Instr) (hi : isHostCommand i = true) (hs : s.seq = .idle) :
    (∃ t, exec i s = .next t ∧ Reachable t) ∨ WellFormed i = false ∧ ∃ r, exec i s = .refused r := by
  have hplain : ∀ t, t.seq = .wPulse ∧ t.op = .wakeup ∨ t.seq = .sSleep ∧ t.op = .sleep ∨
      t.seq = .aCheck ∧ t.op.composite = true → ∃ u, whenIdle s (.next t) = .next u ∧ Reachable u := fun t h => by
    refine ⟨t, whenIdle_idle s _ hs, ?_⟩
    rcases h with ⟨h, hop⟩ | ⟨h, hop⟩ | ⟨h, hop⟩
    · exact reachable_of_op t (by rw [h, hop]; rfl) (by simp [h])
    · exact reachable_of_op t (by rw [h, hop]; rfl) (by simp [h])
    · exact reachable_of_op t (by rw [h]; exact hop) (by simp [h])
  cases i with
  | checksum F =>
    rw [exec_checksum_idle s hs]
    by_cases h : checksumDefined F = true
    · rw [if_pos h]
      exact .inl ⟨_, rfl, rfl, h⟩
    · rw [if_neg h]
      exact .inr ⟨by simpa [WellFormed] using h, _, rfl⟩
  | pollRead addr n typ max =>
    rw [exec_pollRead_idle s hs]
    by_cases h : pollFits n = true
    · rw [if_pos h]
      exact .inl ⟨_, rfl, reachable_poll _ (.inl rfl) rfl fun _ => h⟩
    · rw [if_neg h]
      exact .inr ⟨by simpa [WellFormed] using h, _, rfl⟩
  | request addr p F =>
    rw [exec_request_idle s hs]
    by_cases h : requestFits F = true
    · rw [if_pos h]
      obtain ⟨count, rest, -, hloaded⟩ := frameLoaded_request s.cbuf F h
      exact .inl ⟨_, rfl, reachable_qCrc _ waCommandByte count rest rfl rfl hloaded⟩
    · rw [if_neg h]
      exact .inr ⟨by simpa [WellFormed] using h, _, rfl⟩
  | wakeup addr => exact .inl (hplain _ (.inl ⟨rfl, rfl⟩))
  | sleep addr => exact .inl (hplain _ (.inr (.inl ⟨rfl, rfl⟩)))
  | readZone addr zone slot block offset rlen => exact .inl (hplain _ (.inr (.inr ⟨rfl, rfl⟩)))
  | readSerial addr => exact .inl (hplain _ (.inr (.inr ⟨rfl, rfl⟩)))
  | derivePublicKey addr slot => exact .inl (hplain _ (.inr (.inr ⟨rfl, rfl⟩)))
  | signCmd addr slot data => exact .inl (hplain _ (.inr (.inr ⟨rfl, rfl⟩)))
  | _ => cases hi

theorem sound_sSleep (hseq : s.seq = .sSleep) : Sound s (step s) := by
  rw [step_sSleep s hseq, execSleepToken_end s (by simp [hseq])]
  split
  · split
    · exact sound_next (reachable_of_op _ rfl (by simp))
    · exact sound_next (reachable_of_op _ rfl (by simp))
  · exact sound_next (reachable_of_op _ rfl (by simp))

include hr

theorem sound_idle (hseq : s.seq = .idle) : Sound s (step s) := by
  cases hq : s.hostQueue with
  | nil =>
    rw [step_idle_wait s hseq hq]
    exact sound_next hr
  | cons c rest =>
    rw [step_idle_command s c rest hseq hq]
    by_cases hc : c.cmd.toNat < 9
    · rcases sound_accept { s with hostQueue := rest } _ (isHostCommand_decodeCommand c hc) hseq with
        h | ⟨hill, r, h⟩
      · exact .inl h
      · exact .inr ⟨r, c, rest, h, hseq, hq, .inl hill⟩
    · rw [exec_reserved c (by omega), whenIdle_idle { s with hostQueue := rest } _ hseq]
      exact .inr ⟨_, c, rest, rfl, hseq, hq, .inr (by omega)⟩

theorem sound_aCheck (hseq : s.seq = .aCheck) : Sound s (step s) := by
  have hop : s.op.composite = true := by simpa [hseq, opAllowed] using hr.1
  have hpass : Reachable { s with seq := .wPulse } := reachable_of_op _ (by simp [opAllowed, hop]) (by simp)
  rw [step_aCheck s hseq, stepACheck]
  split
  next =>
    split
    · exact sound_next hpass
    · exact sound_next (reachable_of_op _ rfl (by simp))
  iterate 3 next => exact sound_next hpass
  all_goals next h => simp [h, Op.composite] at hop

theorem sound_cRun (hseq : s.seq = .cRun) : Sound s (step s) := by
  have hdef : checksumDefined s.hostBuf = true := by simpa [operandsReady, hseq] using hr.2
  obtain ⟨N, hN⟩ := Option.isSome_iff_exists.1 hdef
  rw [step_cRun s hseq, stepCRun, hN]
  exact sound_next (reachable_of_op _ rfl (by simp))

theorem sound_wake (hseq : s.seq = .wPulse ∨ s.seq = .wSettle ∨ s.seq = .wResleep) : Sound s (step s) := by
  have hop : opAllowed .wPulse s.op = true := by
    rcases hseq with h | h | h <;> simpa [h, opAllowed] using hr.1
  rcases hseq with h | h | h
  · rw [step_wPulse s h]
    exact sound_next (reachable_of_op _ hop (by simp))
  · rw [step_wSettle s h]
    exact sound_next (reachable_of_op _ hop (by simp))
  · rw [step_sleepBetweenAttempts s h]
    exact sound_next (reachable_of_op _ hop (by simp))

theorem sound_wVerify (hseq : s.seq = .wVerify) : Sound s (step s) := by
  have hop : s.op = .wakeup ∨ s.op.composite = true := by simpa [hseq, opAllowed] using hr.1
  have hne : s.op ≠ .checksum := by
    intro h
    simp [h, Op.composite] at hop
  rw [step_wVerify s hseq]
  split
  · rw [execWakeSignature_eq _ (by simpa using hop)]
    split
    · exact sound_next (reachable_of_op _ rfl (by simp))
    next hw =>
      rw [busReadInto_op] at hw
      exact sound_next (reachable_of_op _ (by simpa [opAllowed] using hop.resolve_left hw) (by simp))
  · rw [wakeMismatch, raise_eq, busReadInto_op, if_neg hne]
    split
    · exact sound_next (reachable_error_end _ (by simp))
    · exact sound_next (reachable_of_op _ (by simpa [opAllowed] using hop) (by simp))

theorem sound_bBuild (hseq : s.seq = .bBuild) : Sound s (step s) := by
  have hop : s.op.composite = true := by simpa [hseq, opAllowed] using hr.1
  have hbuild : ∀ p count rest, 7 ≤ count.toNat → count.toNat ≤ 39 → rest.length + 3 = count.toNat →
      Sound s (.next (s.build p (withChecksum (count :: rest)))) := fun p count rest h7 h39 hlen =>
    sound_next (reachable_qCrc _ waCommandByte count rest rfl (by simp [opAllowed, hop])
      (frameLoaded_build s p count rest h7 h39 hlen))
  cases h : s.op with
  | readZone =>
    rw [step_bBuild_readZone s hseq h]
    exact hbuild _ 0x07 _ (by decide) (by decide) rfl
  | readSerial =>
    rw [step_bBuild_readSerial s hseq h]
    exact hbuild _ 0x07 _ (by decide) (by decide) rfl
  | derivePublicKey =>
    rw [step_bBuild_derivePublicKey s hseq h]
    exact hbuild _ 0x07 _ (by decide) (by decide) rfl
  | sign =>
    cases hx : s.exch with
    | false =>
      rw [step_bBuild_nonce s hseq h hx]
      exact hbuild _ 0x27 _ (by decide) (by decide) (by simp)
    | true =>
      rw [step_bBuild_sign s hseq h hx]
      exact hbuild _ 0x07 _ (by decide) (by decide) rfl
  | _ => simp [h, Op.composite] at hop

theorem sound_qCrc (hseq : s.seq = .qCrc) : Sound s (step s) := by
  have hop : opAllowed .qCrc s.op = true := hseq ▸ hr.1
  obtain ⟨wa, count, rest, hloaded⟩ := frameLoaded_of_reachable s hseq hr
  have hslice := slice_after_qCrc s.cbuf wa count rest hloaded
  have hL := read_of_slice hslice 1 (by have := hloaded.low; omega)
  have hwritten := (writtenTo_iff _ _).2 ⟨_, hslice⟩
  rw [step_qCrc_frame s wa count rest hseq hloaded]
  refine sound_next ⟨hop, ?_⟩
  simp only [operandsReady, hL]
  simp [withChecksum, hloaded.low, hloaded.high, hwritten]

theorem sound_qWrite (hseq : s.seq = .qWrite) : Sound s (step s) := by
  have hop : s.op = .request ∨ s.op.composite = true := exchange_op (by simpa [hseq, opAllowed] using hr.1)
  have hready := hr.2
  simp only [operandsReady, hseq] at hready
  split at hready
  next L hL =>
    simp only [Bool.and_eq_true, decide_eq_true_eq, writtenTo_iff] at hready
    obtain ⟨⟨-, h39⟩, bytes, hbytes⟩ := hready
    rw [step_qWrite s hseq, execWaCommand_eq s L bytes hL h39 hbytes]
    split
    · exact sound_next (reachable_poll _ (.inl rfl) (allowed_pWait_of_exchange hop) fun h =>
        absurd h (ne_pollRead_of_exchange hop))
    · exact sound_next (reachable_of_op _ (by simpa [opAllowed] using hop) (by simp))
  next => cases hready

theorem pollFits_of_reachable (hseq : s.seq = .pWait ∨ s.seq = .pRead ∨ s.seq = .pBackoff) :
    opAllowed .pWait s.op = true ∧ (s.op = .pollRead → pollFits s.n = true) := by
  obtain ⟨hop, hready⟩ := hr
  rcases hseq with h | h | h <;> rw [h] at hop <;> refine ⟨hop, fun hp => ?_⟩ <;>
    simpa [operandsReady, h, hp] using hready

theorem sound_pWait (hseq : s.seq = .pWait) : Sound s (step s) := by
  obtain ⟨hop, hfits⟩ := pollFits_of_reachable s hr (.inl hseq)
  rw [step_pWait s hseq]
  exact sound_next (reachable_poll _ (.inr (.inl rfl)) hop hfits)

theorem sound_pRead (hseq : s.seq = .pRead) : Sound s (step s) := by
  obtain ⟨hop, hfits⟩ := pollFits_of_reachable s hr (.inr (.inl hseq))
  have hlen : readLengthFits s.readLen = true := by
    by_cases hp : s.op = .pollRead
    · rw [State.readLen, if_pos hp]
      exact (readLengthFits_iff _).2 ((pollFits_iff _).1 (hfits hp))
    · rw [State.readLen, if_neg hp]
      cases s.sel <;> decide
  rw [step_pRead s hseq, stepPRead, if_pos hlen]
  cases hres : s.bus.readRes s.readLen with
  | fail => exact sound_next (reachable_poll _ (.inr (.inr rfl)) (by simpa using hop) (by simpa using hfits))
  | ok bytes =>
    by_cases hp : s.op = .pollRead
    · rw [hp]
      exact sound_next (reachable_of_op _ rfl (by simp))
    · have hvLen : Reachable { s.busReadInto s.addr s.readLen with seq := .vLen } := by
        have hn : s.readLen = frameLen s.sel := if_neg hp
        have hexch : s.op = .request ∨ s.op.composite = true := by
          simpa [opAllowed, hp] using hop
        refine ⟨by simpa [opAllowed] using hexch, (writtenTo_iff _ _).2 ⟨bytes, ?_⟩⟩
        have hbytes := bus_readRes_length s.bus _ bytes hres
        simp only [busReadInto_sel, busReadInto_rbuf_ok s s.addr _ bytes hres]
        rw [← hn, ← hbytes, Memory.slice_writeList]
      cases h : s.op with
      | pollRead => exact absurd h hp
      | _ => exact sound_next hvLen

theorem sound_pBackoff (hseq : s.seq = .pBackoff) : Sound s (step s) := by
  obtain ⟨hop, hfits⟩ := pollFits_of_reachable s hr (.inr (.inr hseq))
  rw [step_pBackoff s hseq, stepPBackoff]
  split
  · by_cases hp : s.op = .pollRead
    · rw [hp]
      dsimp only
      rw [raise_standalone _ _ (by simp [hp]) (by simp [hp, Op.composite])]
      exact sound_next (reachable_of_op _ rfl (by simp))
    · have hexch : s.op = .request ∨ s.op.composite = true := by simpa [opAllowed, hp] using hop
      have hfail : Reachable (State.failExchange
          { s.delay pollIntervalUs with elapsed := s.elapsed + pollIntervalUs } .timeout) :=
        reachable_of_op _ (by simpa [opAllowed] using hexch) (by simp)
      cases h : s.op with
      | pollRead => exact absurd h hp
      | _ => exact sound_next hfail
  · exact sound_next (reachable_poll _ (.inr (.inl rfl)) hop hfits)

theorem sound_vLen (hseq : s.seq = .vLen) : Sound s (step s) := by
  have hop : s.op = .request ∨ s.op.composite = true := exchange_op (by simpa [hseq, opAllowed] using hr.1)
  have hwritten : writtenTo s.rbuf (frameLen s.sel) = true := by simpa [operandsReady, hseq] using hr.2
  obtain ⟨bytes, hbytes⟩ := (writtenTo_iff _ _).1 hwritten
  have hlen := ((Memory.slice_eq_some _ _ _ _).1 hbytes).1
  match bytes with
  | [] => simp [frameLen] at hlen
  | count :: rest =>
    have hcount : s.rbuf.read 0 = some count := read_of_slice hbytes 0 (by simp [frameLen])
    rw [step_vLen_exchange s count hseq (ne_pollRead_of_exchange hop) hcount]
    split
    next hok =>
      have hbyte : count = BitVec.ofNat 8 (frameLen s.sel) :=
        BitVec.eq_of_toNat_eq (by rw [ofNat_frameLen_toNat]; exact (countOk_iff _ _).1 hok)
      refine sound_next ⟨by simpa [opAllowed] using hop, ?_⟩
      simp [operandsReady, hwritten, hcount, hbyte]
    next => exact sound_next (reachable_of_op _ (by simpa [opAllowed] using hop) (by simp))

theorem sound_vCrc (hseq : s.seq = .vCrc) : Sound s (step s) := by
  have hop : s.op = .request ∨ s.op.composite = true := exchange_op (by simpa [hseq, opAllowed] using hr.1)
  have hready := hr.2
  simp only [operandsReady, hseq, Bool.and_eq_true, beq_iff_eq] at hready
  obtain ⟨hwritten, hcount⟩ := hready
  obtain ⟨bytes, hbytes⟩ := (writtenTo_iff _ _).1 hwritten
  have hlen := ((Memory.slice_eq_some _ _ _ _).1 hbytes).1
  have hhead : (bytes.headD 0).toNat = frameLen s.sel := by
    match bytes with
    | [] => simp [frameLen] at hlen
    | count :: rest =>
      rw [read_of_slice hbytes 0 (by simp [frameLen])] at hcount
      obtain rfl : count = BitVec.ofNat 8 (frameLen s.sel) := by simpa using hcount
      exact ofNat_frameLen_toNat s.sel
  obtain ⟨payload, crc, hp, rfl⟩ := exists_eq_responseFrame s.sel bytes hlen hhead
  rw [step_vCrc s hseq payload crc hp hbytes, checkResponse_eq s _ crc hop]
  split
  · split
    · exact sound_next (reachable_of_op _ rfl (by simp))
    next hne => exact sound_next ⟨by simpa [opAllowed] using hop.resolve_left hne, hwritten⟩
  · exact sound_next (reachable_of_op _ (by simpa [opAllowed] using hop) (by simp))

theorem sound_xPayload (hseq : s.seq = .xPayload) : Sound s (step s) := by
  have hop : s.op.composite = true := by simpa [hseq, opAllowed] using hr.1
  have hwritten : writtenTo s.rbuf (frameLen s.sel) = true := by simpa [operandsReady, hseq] using hr.2
  obtain ⟨bytes, hbytes⟩ := (writtenTo_iff _ _).1 hwritten
  have hpayload := payload_of_slice s bytes hbytes
  have hout : ∀ out, Reachable { s with out := out, seq := .sSleep } := fun out =>
    reachable_of_op _ (by simp [opAllowed, hop]) (by simp)
  rw [step_xPayload s hseq, stepXPayload]
  cases h : s.op with
  | readZone =>
    dsimp only
    rw [payloadReadZone, hpayload]
    exact sound_next (hout _)
  | readSerial =>
    dsimp only
    rw [payloadReadSerial, hpayload]
    exact sound_next (hout _)
  | derivePublicKey =>
    dsimp only
    rw [payloadDerivePublicKey, hpayload]
    exact sound_next (hout _)
  | sign =>
    dsimp only
    rw [payloadSign, hpayload, withBytes_ok, raise_composite s _ hop]
    split
    · exact sound_next (hout _)
    · split
      · exact sound_next (reachable_of_op _ (by simp [opAllowed, hop]) (by simp))
      · exact sound_next (reachable_of_op _ (by simp [opAllowed, hop]) (by simp))
  | _ => simp [h, Op.composite] at hop

theorem sound_xFail (hseq : s.seq = .xFail) : Sound s (step s) := by
  have hop : s.op = .request ∨ s.op.composite = true := exchange_op (by simpa [hseq, opAllowed] using hr.1)
  have hne : s.op ≠ .checksum := by
    intro h
    simp [h, Op.composite] at hop
  rw [step_xFail s hseq, stepXFail, errorEntry_eq, if_neg hne]
  split
  next h _ => exact sound_next (reachable_of_op _ (by simp [opAllowed, h, Op.composite]) (by simp))
  next => exact sound_next (reachable_error_end _ rfl)

/-- Every step from a reachable state is sound. -/
theorem sound_step : Sound s (step s) := by
  cases hseq : s.seq with
  | idle => exact sound_idle s hr hseq
  | aCheck => exact sound_aCheck s hr hseq
  | cRun => exact sound_cRun s hr hseq
  | wPulse => exact sound_wake s hr (.inl hseq)
  | wSettle => exact sound_wake s hr (.inr (.inl hseq))
  | wVerify => exact sound_wVerify s hr hseq
  | wResleep => exact sound_wake s hr (.inr (.inr hseq))
  | bBuild => exact sound_bBuild s hr hseq
  | qCrc => exact sound_qCrc s hr hseq
  | qWrite => exact sound_qWrite s hr hseq
  | pWait => exact sound_pWait s hr hseq
  | pRead => exact sound_pRead s hr hseq
  | pBackoff => exact sound_pBackoff s hr hseq
  | vLen => exact sound_vLen s hr hseq
  | vCrc => exact sound_vCrc s hr hseq
  | xPayload => exact sound_xPayload s hr hseq
  | xFail => exact sound_xFail s hr hseq
  | sSleep => exact sound_sSleep s hseq
  | done =>
    rw [step_done_finish s hseq]
    exact sound_next (reachable_of_op _ rfl (by simp))

end

/-- Settles O39. -/
theorem reachableIsKept : Obligations.ReachableIsKept := by
  intro s t hr h
  rcases sound_step s hr with ⟨u, hu, hreach⟩ | ⟨r, c, rest, hrefused, -⟩
  · rw [h] at hu
    cases hu
    exact hreach
  · rw [h] at hrefused
    cases hrefused

/-- Settles O40. -/
theorem reachableStatesNeverFault : Obligations.ReachableStatesNeverFault := by
  intro s f hr h
  rcases sound_step s hr with ⟨u, hu, -⟩ | ⟨r, c, rest, hrefused, -⟩
  · rw [h] at hu
    cases hu
  · rw [h] at hrefused
    cases hrefused

/-- Settles O41. -/
theorem onlyUndefinedHostInputIsRefused : Obligations.OnlyUndefinedHostInputIsRefused := by
  intro s r hr h
  rcases sound_step s hr with ⟨u, hu, -⟩ | ⟨-, c, rest, -, hseq, hq, hill⟩
  · rw [h] at hu
    cases hu
  · exact ⟨hseq, c, rest, hq, hill⟩

/-! ### Reset (R21) -/

/-- Settles O42. -/
theorem resetIsIdleDormantWithEmptyTrace : Obligations.ResetIsIdleDormantWithEmptyTrace := ⟨rfl, rfl, rfl, rfl⟩

/-- Settles O43. -/
theorem invariantsHoldAtReset : Obligations.InvariantsHoldAtReset :=
  ⟨reachable_of_op State.reset rfl (.inl rfl), reset_buffers_wf.1, reset_buffers_wf.2, by decide, by decide, by decide⟩

end Sys2Proof.Proofs.Reach

/-! Running a command to its end (spec/10_state.md R14): the steps in between, the row `DONE`, and the clean-up Sleep of
a composite command. `Completes s p` says that from `s` the block comes to `IDLE` with the result and the environment
`p` of the pseudocode. -/

namespace Sys2Proof.Proofs.Runs

open Sys2Proof.Machine Sys2Proof.Laws Sys2Proof.Proofs.Cleanup Sys2Proof.Proofs.Meaning Sys2Proof.Proofs.Accept

/-! ### Steps of a running command -/

/-- One step while a command runs. -/
def RunStep (s t : State) : Prop := s.seq ≠ .idle ∧ step s = .next t

/-- Any number of steps while a command runs. -/
abbrev Leads : State → State → Prop := Relation.ReflTransGen RunStep

theorem leads_step {s t u : State} (hs : s.seq ≠ .idle) (h : step s = .next t) (hu : Leads t u) : Leads s u :=
  .head ⟨hs, h⟩ hu

theorem leads_one {s t : State} (hs : s.seq ≠ .idle) (h : step s = .next t) : Leads s t := .single ⟨hs, h⟩

/-- A run that ends at `IDLE` is what `toIdle` computes. -/
theorem toIdle_of_leads {s u : State} (h : Leads s u) (hu : u.seq = .idle) : ∃ k, toIdle k s = some u := by
  induction h using Relation.ReflTransGen.head_induction_on with
  | refl => exact ⟨0, if_pos hu⟩
  | head hstep _ ih =>
    obtain ⟨hs, hstep⟩ := hstep
    obtain ⟨k, hk⟩ := ih
    exact ⟨k + 1, by rw [toIdle, if_neg hs, hstep]; exact hk⟩

theorem runs_of_leads {i : Instr} {s t u : State} (hi : exec i s = .next t) (h : Leads t u) (hu : u.seq = .idle) :
    Runs i s u := by
  obtain ⟨k, hk⟩ := toIdle_of_leads h hu
  exact ⟨t, k, hi, hk⟩

/-- The fuel of `toIdle` decides only whether it answers. -/
theorem toIdle_unique {k k' : Nat} {s u u' : State} (h : toIdle k s = some u) (h' : toIdle k' s = some u') :
    u = u' := by
  induction k generalizing k' s with
  | zero =>
    rw [toIdle] at h
    split at h
    next hs =>
      cases h
      cases k' <;> simpa [toIdle, hs] using h'
    next => cases h
  | succ k ih =>
    rw [toIdle] at h
    split at h
    next hs =>
      cases h
      cases k' <;> simpa [toIdle, hs] using h'
    next hs =>
      split at h
      next t ht =>
        match k' with
        | 0 => simp [toIdle, hs] at h'
        | k' + 1 =>
          rw [toIdle, if_neg hs, ht] at h'
          exact ih h h'
      next => cases h
      next => cases h

/-- A command has one run. -/
theorem runs_unique {i : Instr} {s u u' : State} (h : Runs i s u) (h' : Runs i s u') : u = u' := by
  obtain ⟨t, k, ht, hk⟩ := h
  obtain ⟨t', k', ht', hk'⟩ := h'
  rw [ht] at ht'
  cases ht'
  exact toIdle_unique hk hk'

/-! ### The end of a command -/

/-- The registers that make up the result hold `r`. -/
def Holds (s : State) (r : Res) : Prop :=
  match r with
  | .ok bytes => s.err = none ∧ s.out = bytes
  | .error k => s.err = some k

/-- From `s` the block comes to `IDLE`, with this result and this environment. -/
def Completes (s : State) (p : Res × Env) : Prop :=
  ∃ u, Leads s u ∧ u.seq = .idle ∧ u.busy = false ∧ u.result = resultOf p.1 ∧ u.env = p.2

theorem completes_of_leads {s t : State} {p : Res × Env} (h : Leads s t) (ht : Completes t p) : Completes s p := by
  obtain ⟨u, hu, hend⟩ := ht
  exact ⟨u, h.trans hu, hend⟩

theorem completes_of_step {s t : State} {p : Res × Env} (hs : s.seq ≠ .idle) (h : step s = .next t)
    (ht : Completes t p) : Completes s p :=
  completes_of_leads (leads_one hs h) ht

/-- Row `DONE` presents the result of the registers (R158). -/
theorem finish_result_of_holds (s : State) (r : Res) (h : Holds s r) : s.finish.result = resultOf r := by
  rw [finish_result]
  cases r with
  | ok bytes =>
    obtain ⟨herr, hout⟩ := h
    rw [herr, ← hout]
    rfl
  | error k =>
    have herr : s.err = some k := h
    rw [herr]
    rfl

theorem completes_done (s : State) (r : Res) (hseq : s.seq = .done) (h : Holds s r) : Completes s (r, s.env) :=
  ⟨s.finish, leads_one (by simp [hseq]) (step_done_finish s hseq), rfl, rfl, finish_result_of_holds s r h, rfl⟩

/-- What SLEEP makes of the environment (R113). -/
theorem env_after_sleep (s : State) : ((s.busWrite s.addr [waSleep]).setDormant).env = (pseudoSleep s.addr s.env).2 :=
  rfl

/-- The clean-up Sleep of a composite command, its result discarded (R130, R154). -/
theorem completes_cleanup (s : State) (r : Res) (hseq : s.seq = .sSleep) (hop : s.op.composite = true)
    (h : Holds s r) : Completes s (r, (pseudoSleep s.addr s.env).2) :=
  completes_of_step (by simp [hseq]) (step_cleanupSleep s hseq hop) (completes_done _ r rfl h)

/-- A command that is accepted and completes has the run the statements ask for. -/
theorem run_of_completes {i : Instr} {s t : State} {p : Res × Env} (hi : exec i s = .next t) (h : Completes t p) :
    ∃ u, Runs i s u ∧ u.busy = false ∧ u.result = resultOf p.1 ∧ u.env = p.2 := by
  obtain ⟨u, hu, hidle, hbusy, hres, henv⟩ := h
  exact ⟨u, runs_of_leads hi hu hidle, hbusy, hres, henv⟩

/-! ### CHECKSUM and SLEEP -/

/-- Settles O44: `C_RUN`, then `DONE`. -/
theorem checksumFollowsPseudocode : Obligations.ChecksumFollowsPseudocode := by
  intro s count rest hs h2 hlen N c
  have hcov : coveredLen (count :: rest) = some N :=
    (coveredLen_eq_some _ _).2 ⟨count, rest, rfl, by omega, by omega⟩
  have haccept : exec (.checksum (count :: rest)) s = .next { s.accept .checksum with hostBuf := count :: rest } := by
    rw [exec_checksum_idle s hs, if_pos]
    exact (checksumDefined_iff (count :: rest)).2 ⟨by simp, h2, hlen⟩
  have hrun : step { s.accept .checksum with hostBuf := count :: rest } =
      .next { s.accept .checksum with
        hostBuf := fillChecksum N (count :: rest), crc := c, out := halfBytes c, seq := .done } := by
    rw [step_cRun _ rfl, stepCRun, hcov]
  exact ⟨_, runs_of_leads haccept (leads_step (by simp [Op.first]) hrun (leads_one (by simp) (step_done_finish _ rfl)))
    rfl, rfl, rfl, rfl, rfl, rfl⟩

/-- The Sleep write of a standalone SLEEP (R113). -/
theorem completes_sleep (s : State) (hseq : s.seq = .sSleep) (hop : s.op = .sleep) (herr : s.err = none) :
    Completes s (pseudoSleep s.addr s.env) := by
  have hstep := execSleepToken_end s (by simp [hseq])
  rw [if_pos hop, ← step_sSleep s hseq] at hstep
  have hidle : s.seq ≠ .idle := by simp [hseq]
  cases hw : s.bus.writeRes with
  | ok =>
    rw [if_pos hw] at hstep
    have hp : pseudoSleep s.addr s.env = (.ok [], (pseudoSleep s.addr s.env).2) := by
      simp [pseudoSleep, State.env, hw]
    rw [hp]
    exact completes_of_step hidle hstep (completes_done _ (.ok []) rfl ⟨herr, rfl⟩)
  | fail =>
    rw [if_neg (by simp [hw])] at hstep
    have hp : pseudoSleep s.addr s.env = (.error .io, (pseudoSleep s.addr s.env).2) := by
      simp [pseudoSleep, State.env, hw]
    rw [hp]
    exact completes_of_step hidle hstep (completes_done _ (.error .io) rfl rfl)

/-- Settles O47: `S_SLEEP`, then `DONE`. -/
theorem sleepFollowsPseudocode : Obligations.SleepFollowsPseudocode := by
  intro s addr hs
  have haccept : exec (.sleep addr) s = .next { s.accept .sleep with addr := addr } := whenIdle_idle s _ hs
  exact run_of_completes haccept (completes_sleep _ rfl rfl rfl)

end Sys2Proof.Proofs.Runs

/-! POLL_READ and the polling of an exchange (spec/42_poll_read.md R100, R101): the loop that accumulates `elapsed`
makes the reads that R101 counts. -/

namespace Sys2Proof.Proofs.Poll

open Sys2Proof.Machine Sys2Proof.Laws Sys2Proof.Proofs.Cleanup Sys2Proof.Proofs.Accept Sys2Proof.Proofs.Moves
  Sys2Proof.Proofs.Invariants Sys2Proof.Proofs.Runs

/-- How many of at most `k` reads fail before one is answered. -/
def pollFailures (addr : Addr) (n : Nat) : Nat → Bus → Nat
  | 0, _ => 0
  | k + 1, b =>
    match b.readRes n with
    | .ok _ => 0
    | .fail => pollFailures addr n k ((b.read addr n).delay 1000) + 1

section

variable (addr : Addr) (n k : Nat) (e : Env)

theorem pseudoPollTries_answered (bytes : List Byte) (h : e.bus.readRes n = .ok bytes) :
    pseudoPollTries addr n (k + 1) e = (.ok bytes, e.read addr n) := by
  rw [pseudoPollTries, h]

theorem pseudoPollTries_failed (h : e.bus.readRes n = .fail) :
    pseudoPollTries addr n (k + 1) e = pseudoPollTries addr n k ((e.read addr n).delay 1000) := by
  rw [pseudoPollTries, h]

theorem pollFailures_answered (b : Bus) (bytes : List Byte) (h : b.readRes n = .ok bytes) :
    pollFailures addr n (k + 1) b = 0 := by
  rw [pollFailures, h]

theorem pollFailures_failed (b : Bus) (h : b.readRes n = .fail) :
    pollFailures addr n (k + 1) b = pollFailures addr n k ((b.read addr n).delay 1000) + 1 := by
  rw [pollFailures, h]

end

/-- What polling ends with: POLL_READ at `DONE`, an exchange at its count test or in `X_FAIL`. -/
def pollEnd (s : State) (p : Res × Env) (elapsed : Nat) : State :=
  let t := { s with bus := p.2.bus, link := p.2.link, elapsed := elapsed }
  match p.1 with
  | .ok bytes =>
    if s.op = .pollRead then { t with rbuf := s.rbuf.writeList 0 bytes, out := bytes, seq := .done }
    else { t with rbuf := s.rbuf.writeList 0 bytes, seq := .vLen }
  | .error k => { t with err := some k, seq := if s.op = .pollRead then .done else .xFail }

theorem pollEnd_env (s : State) (p : Res × Env) (elapsed : Nat) : (pollEnd s p elapsed).env = p.2 := by
  obtain ⟨r, e⟩ := p
  cases r with
  | ok bytes =>
    simp only [pollEnd]
    split <;> rfl
  | error k => rfl

theorem pollEnd_elapsed (s : State) (p : Res × Env) (elapsed : Nat) : (pollEnd s p elapsed).elapsed = elapsed := by
  obtain ⟨r, e⟩ := p
  cases r with
  | ok bytes =>
    simp only [pollEnd]
    split <;> rfl
  | error k => rfl

section

variable (s : State) (hseq : s.seq = .pRead) (hn : readLengthFits s.readLen = true)
include hseq hn

/-- Row `P_READ`, answered. -/
theorem step_pRead_answered (bytes : List Byte) (hr : s.bus.readRes s.readLen = .ok bytes) :
    step s = .next (pollEnd s (.ok bytes, s.env.read s.addr s.readLen) s.elapsed) := by
  have hread : s.busReadInto s.addr s.readLen =
      { s with bus := s.bus.read s.addr s.readLen, rbuf := s.rbuf.writeList 0 bytes } := by
    rw [State.busReadInto, hr]
  rw [step_pRead s hseq, stepPRead, if_pos hn, hread, hr, pollEnd]
  by_cases hop : s.op = .pollRead
  · simp only [hop, if_true]
    rfl
  · simp only [hop, if_false]
    cases h : s.op with
    | pollRead => exact absurd h hop
    | _ => rfl

/-- Row `P_READ`, not answered. -/
theorem step_pRead_failed (hr : s.bus.readRes s.readLen = .fail) :
    step s = .next { s with bus := s.bus.read s.addr s.readLen, seq := .pBackoff } := by
  have hread : s.busReadInto s.addr s.readLen = { s with bus := s.bus.read s.addr s.readLen } := by
    rw [State.busReadInto, hr]
  rw [step_pRead s hseq, stepPRead, if_pos hn, hread, hr]

end

/-- Row `P_BACKOFF` while there is time (R100). -/
theorem step_pBackoff_retry (s : State) (hseq : s.seq = .pBackoff) (h : s.elapsed + 1000 ≤ s.maxUs) :
    step s = .next { s with bus := s.bus.delay 1000, elapsed := s.elapsed + 1000, seq := .pRead } := by
  rw [step_pBackoff s hseq, stepPBackoff, pollIntervalUs, if_neg (Nat.not_lt.2 h)]
  rfl

/-- Row `P_BACKOFF` when the time is up, strictly (R100, D8). -/
theorem step_pBackoff_timeout (s : State) (hseq : s.seq = .pBackoff) (h : s.maxUs < s.elapsed + 1000) :
    step s = .next (pollEnd s (.error .timeout, s.env.delay 1000) (s.elapsed + 1000)) := by
  rw [step_pBackoff s hseq, stepPBackoff, pollIntervalUs, if_pos h, pollEnd]
  dsimp only
  by_cases hop : s.op = .pollRead
  · rw [raise_standalone _ _ (by simp [hop]) (by simp [hop, Op.composite]), if_pos hop]
    split
    next => rfl
    next h => exact absurd hop h
  · rw [if_neg hop]
    split
    next h => exact absurd h hop
    next => rfl

/-- From `P_READ` with time for `k` more delays, the block makes at most `k + 1` reads (R101). -/
theorem poll_leads (k : Nat) (s : State) (hseq : s.seq = .pRead) (hn : readLengthFits s.readLen = true)
    (hk : (s.maxUs - s.elapsed) / 1000 = k) :
    Leads s (pollEnd s (pseudoPollTries s.addr s.readLen (k + 1) s.env)
      (s.elapsed + 1000 * pollFailures s.addr s.readLen (k + 1) s.bus)) := by
  induction k generalizing s with
  | zero =>
    cases hr : s.bus.readRes s.readLen with
    | ok bytes =>
      rw [pseudoPollTries_answered _ _ _ _ bytes hr, pollFailures_answered _ _ _ _ bytes hr]
      exact leads_one (by simp [hseq]) (step_pRead_answered s hseq hn bytes hr)
    | fail =>
      rw [pseudoPollTries_failed _ _ _ _ hr, pollFailures_failed _ _ _ _ hr]
      have htime : s.maxUs < s.elapsed + 1000 := by omega
      exact leads_step (by simp [hseq]) (step_pRead_failed s hseq hn hr)
        (leads_one (by simp) (step_pBackoff_timeout { s with bus := _, seq := .pBackoff } rfl htime))
  | succ k ih =>
    cases hr : s.bus.readRes s.readLen with
    | ok bytes =>
      rw [pseudoPollTries_answered _ _ _ _ bytes hr, pollFailures_answered _ _ _ _ bytes hr]
      exact leads_one (by simp [hseq]) (step_pRead_answered s hseq hn bytes hr)
    | fail =>
      rw [pseudoPollTries_failed _ _ _ _ hr, pollFailures_failed _ _ _ _ hr]
      have htime : s.elapsed + 1000 ≤ s.maxUs := by omega
      have hrest : (s.maxUs - (s.elapsed + 1000)) / 1000 = k := by omega
      have hend := ih { s with
        bus := (s.bus.read s.addr s.readLen).delay 1000, elapsed := s.elapsed + 1000, seq := .pRead } rfl hn hrest
      have harith : ∀ f, s.elapsed + 1000 * (f + 1) = s.elapsed + 1000 + 1000 * f := fun f => by omega
      rw [harith]
      exact leads_step (by simp [hseq]) (step_pRead_failed s hseq hn hr)
        (leads_step (by simp) (step_pBackoff_retry { s with bus := _, seq := .pBackoff } rfl htime) hend)

/-- From `P_WAIT` on: the polling of R100 with the length and the times of the running command. -/
theorem polling_leads (s : State) (hseq : s.seq = .pWait) (hn : readLengthFits s.readLen = true) :
    Leads s (pollEnd s (pseudoPollRead s.addr s.readLen s.typUs s.maxUs s.env)
      (s.typUs + 1000 * pollFailures s.addr s.readLen (pollAttempts s.typUs s.maxUs) (s.bus.delay s.typUs))) := by
  have hpoll := poll_leads _ { s.delay s.typUs with elapsed := s.typUs, seq := .pRead } rfl hn rfl
  have hstep : step s = .next { s.delay s.typUs with elapsed := s.typUs, seq := .pRead } := step_pWait s hseq
  rw [pseudoPollRead, pollAttempts, Nat.add_comm 1]
  exact leads_step (by simp [hseq]) hstep hpoll

/-! ### POLL_READ -/

theorem pollEnd_done (s : State) (p : Res × Env) (elapsed : Nat) (hop : s.op = .pollRead) (herr : s.err = none) :
    (pollEnd s p elapsed).seq = .done ∧ Holds (pollEnd s p elapsed) p.1 ∧
      ∀ k, p.1 = .error k → (pollEnd s p elapsed).rbuf = s.rbuf := by
  obtain ⟨r, e⟩ := p
  cases r with
  | ok bytes =>
    simp only [pollEnd, hop, if_true]
    exact ⟨trivial, ⟨herr, rfl⟩, fun k hk => by cases hk⟩
  | error k =>
    simp only [pollEnd, hop, if_true]
    exact ⟨trivial, rfl, fun _ _ => trivial⟩

/-- From the acceptance of a POLL_READ to its end: the pseudocode's result and environment, `elapsed` as many times 1000
above the typical time as reads failed, and after an error `rbuf` as it was (R91). -/
theorem pollRead_leads (s : State) (hseq : s.seq = .pWait) (hop : s.op = .pollRead) (herr : s.err = none)
    (hn : readLengthFits s.n.toNat = true) : ∃ u, Leads s u ∧ u.seq = .idle ∧ u.busy = false ∧
      u.result = resultOf (pseudoPollRead s.addr s.n.toNat s.typ s.max s.env).1 ∧
      u.env = (pseudoPollRead s.addr s.n.toNat s.typ s.max s.env).2 ∧
      u.elapsed = s.typ + 1000 * pollFailures s.addr s.n.toNat (pollAttempts s.typ s.max) (s.bus.delay s.typ) ∧
      ∀ k, (pseudoPollRead s.addr s.n.toNat s.typ s.max s.env).1 = .error k → u.rbuf = s.rbuf := by
  have hlen : s.readLen = s.n.toNat := if_pos hop
  have htyp : s.typUs = s.typ := if_pos hop
  have hmax : s.maxUs = s.max := if_pos hop
  have hpoll := polling_leads s hseq (hlen ▸ hn)
  rw [hlen, htyp, hmax] at hpoll
  obtain ⟨hdone, hholds, hrbuf⟩ := pollEnd_done s (pseudoPollRead s.addr s.n.toNat s.typ s.max s.env)
    (s.typ + 1000 * pollFailures s.addr s.n.toNat (pollAttempts s.typ s.max) (s.bus.delay s.typ)) hop herr
  exact ⟨_, hpoll.trans (leads_one (by simp [hdone]) (step_done_finish _ hdone)), rfl, rfl,
    finish_result_of_holds _ _ hholds, pollEnd_env _ _ _, pollEnd_elapsed _ _ _, hrbuf⟩

theorem pollRead_run (s : State) (addr : Addr) (n : Byte) (typ max : Nat) (hs : s.seq = .idle) (h1 : 1 ≤ n.toNat)
    (h67 : n.toNat ≤ 67) : ∃ u, Runs (.pollRead addr n typ max) s u ∧ u.busy = false ∧
      u.result = resultOf (pseudoPollRead addr n.toNat typ max s.env).1 ∧
      u.env = (pseudoPollRead addr n.toNat typ max s.env).2 ∧
      u.elapsed = typ + 1000 * pollFailures addr n.toNat (pollAttempts typ max) (s.bus.delay typ) ∧
      ∀ k, (pseudoPollRead addr n.toNat typ max s.env).1 = .error k → u.rbuf = s.rbuf := by
  have haccept : exec (.pollRead addr n typ max) s =
      .next { s.accept .pollRead with addr := addr, n := n, typ := typ, max := max } := by
    rw [exec_pollRead_idle s hs, if_pos ((pollFits_iff n).2 ⟨h1, h67⟩)]
  obtain ⟨u, hu, hidle, hend⟩ := pollRead_leads
    { s.accept .pollRead with addr := addr, n := n, typ := typ, max := max } rfl rfl rfl
    ((readLengthFits_iff _).2 ⟨h1, h67⟩)
  exact ⟨u, runs_of_leads haccept hu hidle, hend⟩

/-- Settles O45. -/
theorem pollReadFollowsPseudocode : Obligations.PollReadFollowsPseudocode := by
  intro s addr n typ max hs h1 h67
  obtain ⟨u, hrun, hbusy, hres, henv, -, -⟩ := pollRead_run s addr n typ max hs h1 h67
  exact ⟨u, hrun, hbusy, hres, henv⟩

/-! ### Scripted answers -/

theorem readRes_of_fail (b : Bus) (n : Nat) (more : List Answer) (h : b.answers = .fail :: more) :
    b.readRes n = .fail := by
  simp [Bus.readRes, Bus.fails, h]

/-- A scripted answer of the right length is what the read returns. -/
theorem readRes_of_ok (b : Bus) (n : Nat) (bytes : List Byte) (more : List Answer) (h : b.answers = .ok bytes :: more)
    (hlen : bytes.length = n) : b.readRes n = .ok bytes := by
  have hbytes : b.bytes n = bytes := by
    simp only [Bus.bytes, h]
    apply List.ext_getElem
    · simp [hlen]
    · intro j h1 h2
      simp [List.getElem?_eq_getElem h2]
  simp [Bus.readRes, Bus.fails, h, hbytes]

/-- `k` failures in a row use up all of at most `k` reads. -/
theorem pollTries_all_fail (addr : Addr) (n k : Nat) (e : Env) (more : List Answer)
    (h : e.bus.answers = List.replicate k .fail ++ more) :
    (pseudoPollTries addr n k e).1 = .error .timeout ∧ pollFailures addr n k e.bus = k ∧
      (pseudoPollTries addr n k e).2.bus.trace = e.bus.trace ++
        (List.replicate k [Event.read addr n .fail, Event.delay 1000]).flatten := by
  induction k generalizing e with
  | zero => exact ⟨rfl, rfl, by simp [pseudoPollTries]⟩
  | succ k ih =>
    rw [List.replicate_succ, List.cons_append] at h
    have hr := readRes_of_fail e.bus n (List.replicate k .fail ++ more) h
    have hrest : ((e.read addr n).delay 1000).bus.answers = List.replicate k .fail ++ more := by
      simp [Env.read, Env.delay, h]
    obtain ⟨hres, hcount, htrace⟩ := ih _ hrest
    rw [pseudoPollTries_failed _ _ _ _ hr, pollFailures_failed _ _ _ _ hr]
    refine ⟨hres, congrArg (· + 1) hcount, ?_⟩
    rw [htrace]
    simp [Env.read, Env.delay, hr, List.replicate_succ]

/-- `j` failures and then an answer end the polling with the answer, when there is a read left for it. -/
theorem pollTries_first_answer (addr : Addr) (n k j : Nat) (e : Env) (bytes : List Byte) (more : List Answer)
    (hj : j < k) (hlen : bytes.length = n) (h : e.bus.answers = List.replicate j .fail ++ .ok bytes :: more) :
    (pseudoPollTries addr n k e).1 = .ok bytes ∧ pollFailures addr n k e.bus = j ∧
      (pseudoPollTries addr n k e).2.bus.answers = more := by
  induction j generalizing k e with
  | zero =>
    obtain ⟨k, rfl⟩ : ∃ k', k = k' + 1 := ⟨k - 1, by omega⟩
    have hr := readRes_of_ok e.bus n bytes more h hlen
    rw [pseudoPollTries_answered _ _ _ _ bytes hr, pollFailures_answered _ _ _ _ bytes hr]
    exact ⟨rfl, rfl, by simp [Env.read, h]⟩
  | succ j ih =>
    obtain ⟨k, rfl⟩ : ∃ k', k = k' + 1 := ⟨k - 1, by omega⟩
    rw [List.replicate_succ, List.cons_append] at h
    have hr := readRes_of_fail e.bus n (List.replicate j .fail ++ .ok bytes :: more) h
    have hrest : ((e.read addr n).delay 1000).bus.answers = List.replicate j .fail ++ .ok bytes :: more := by
      simp [Env.read, Env.delay, h]
    obtain ⟨hres, hcount, hanswers⟩ := ih k _ (by omega) hrest
    rw [pseudoPollTries_failed _ _ _ _ hr, pollFailures_failed _ _ _ _ hr]
    exact ⟨hres, congrArg (· + 1) hcount, hanswers⟩

/-- Settles O54. -/
theorem pollReadTimesOutAfterKReads : Obligations.PollReadTimesOutAfterKReads := by
  intro s addr n typ max more hs h1 h67 K hanswers
  obtain ⟨u, hrun, -, hres, henv, helapsed, hrbuf⟩ := pollRead_run s addr n typ max hs h1 h67
  obtain ⟨htimeout, hcount, htrace⟩ := pollTries_all_fail addr n.toNat K (s.env.delay typ) more hanswers
  refine ⟨u, hrun, ?_, ?_, hrbuf _ htimeout, ?_⟩
  · rw [hres]
    exact congrArg resultOf htimeout
  · rw [helapsed]
    exact congrArg (fun f => typ + 1000 * f) hcount
  · exact (congrArg (fun e => e.bus.trace) henv).trans htrace

/-- Settles O55. -/
theorem pollReadReturnsTheFirstAnswer : Obligations.PollReadReturnsTheFirstAnswer := by
  intro s addr n typ max j bytes more hs h1 h67 hj hlen hanswers
  obtain ⟨u, hrun, -, hres, henv, helapsed, -⟩ := pollRead_run s addr n typ max hs h1 h67
  obtain ⟨hok, hcount, hmore⟩ := pollTries_first_answer addr n.toNat (pollAttempts typ max) j (s.env.delay typ) bytes
    more (by rw [pollAttempts]; omega) hlen hanswers
  refine ⟨u, hrun, ?_, ?_, ?_⟩
  · rw [hres]
    exact congrArg resultOf hok
  · rw [helapsed]
    exact congrArg (fun f => typ + 1000 * f) hcount
  · exact (congrArg (fun e => e.bus.answers) henv).trans hmore

end Sys2Proof.Proofs.Poll

/-! The exchange of the Command Envelope Protocol (spec/44_request.md R120 to R125), run by the sequencer from `Q_CRC`
to its end, and REQUEST. -/

namespace Sys2Proof.Proofs.Exchange

open Sys2Proof.Machine Sys2Proof.Laws Sys2Proof.Proofs.Request Sys2Proof.Proofs.Meaning Sys2Proof.Proofs.Accept
  Sys2Proof.Proofs.Rows Sys2Proof.Proofs.Reach Sys2Proof.Proofs.Runs Sys2Proof.Proofs.Poll

/-- The registers no step of a wake sequence or of an exchange writes: the state with every register one of these
steps writes set to a fixed value. -/
def context (s : State) : State :=
  { s with
    crc := 0, cbuf := [], rbuf := [], seq := .idle, wakeTry := false, err := none, elapsed := 0, link := .dormant,
    out := [], sel := .read4, bus := ⟨[], 0, []⟩ }

/-- An exchange has ended with the result `r` in the environment `e`: an error is latched at `X_FAIL`; a payload is the
output of a REQUEST, and stands in `rbuf` for the payload step of a composite command. -/
structure ExchangeEnds (s t : State) (p : Res × Env) : Prop where
  context : context t = context s
  env : t.env = p.2
  error : ∀ k, p.1 = .error k → t.seq = .xFail ∧ t.err = some k
  ok : ∀ payload, p.1 = .ok payload → t.err = s.err ∧ (s.op = .request → t.seq = .done ∧ t.out = payload) ∧
    (s.op.composite = true → t.seq = .xPayload ∧ t.payload = .ok payload)

theorem op_of_context {s t : State} (h : context t = context s) : t.op = s.op :=
  (congrArg State.op h : (context t).op = (context s).op)

theorem addr_of_context {s t : State} (h : context t = context s) : t.addr = s.addr :=
  (congrArg State.addr h : (context t).addr = (context s).addr)

theorem exchangeEnds_error {s t : State} {k : ErrKind} {e : Env} (hc : context t = context s) (he : t.env = e)
    (hseq : t.seq = .xFail) (herr : t.err = some k) : ExchangeEnds s t (.error k, e) where
  context := hc
  env := he
  error := fun k' hk => by
    cases hk
    exact ⟨hseq, herr⟩
  ok := fun payload hp => by cases hp

theorem exchangeEnds_ok {s t : State} {payload : List Byte} {e : Env} (hc : context t = context s) (he : t.env = e)
    (herr : t.err = s.err) (hreq : s.op = .request → t.seq = .done ∧ t.out = payload)
    (hcomp : s.op.composite = true → t.seq = .xPayload ∧ t.payload = .ok payload) :
    ExchangeEnds s t (.ok payload, e) where
  context := hc
  env := he
  error := fun k hk => by cases hk
  ok := fun _ hp => by
    cases hp
    exact ⟨herr, hreq, hcomp⟩

/-- The exchange that ends in `p` from a later state ends so from the earlier one. -/
theorem exchange_of_later {s s' : State} {p : Res × Env} (h : ∃ t, Leads s' t ∧ ExchangeEnds s' t p)
    (hc : context s' = context s) (herr : s'.err = s.err) : ∃ t, Leads s' t ∧ ExchangeEnds s t p := by
  obtain ⟨t, ht, hend⟩ := h
  refine ⟨t, ht, hend.context.trans hc, hend.env, hend.error, fun payload hp => ?_⟩
  obtain ⟨he, hreq, hcomp⟩ := hend.ok payload hp
  rw [op_of_context hc] at hreq hcomp
  exact ⟨he.trans herr, hreq, hcomp⟩

theorem exchange_of_leads {s s' : State} {p : Res × Env} (h : Leads s s')
    (ht : ∃ t, Leads s' t ∧ ExchangeEnds s t p) : ∃ t, Leads s t ∧ ExchangeEnds s t p := by
  obtain ⟨t, ht, hend⟩ := ht
  exact ⟨t, h.trans ht, hend⟩

/-! ### The two tests, rows `V_LEN` and `V_CRC` -/

/-- The pseudocode's tests of a Response Frame. -/
theorem pseudoValidate_responseFrame (p : Profile) (payload : List Byte) (crc : Half)
    (h : payload.length = respLen p) : pseudoValidate (frameLen p) (responseFrame payload crc) =
      if crc16 (responseBody p payload) = crc then .ok payload else .error .integrity := by
  have hcount : ((responseFrame payload crc).headD 0).toNat = frameLen p := by
    rw [responseFrame_eq_body p payload crc h]
    exact ofNat_frameLen_toNat p
  have hpayload : ((responseFrame payload crc).drop 1).take (frameLen p - 3) = payload :=
    responseFrame_payload p payload crc h
  rw [pseudoValidate, if_neg (not_not.2 hcount), checksumOk_responseFrame p payload crc h, hpayload]
  simp

theorem validate_leads (s : State) (bytes : List Byte) (hseq : s.seq = .vLen)
    (hop : s.op = .request ∨ s.op.composite = true) (hslice : s.rbuf.slice 0 (frameLen s.sel) = some bytes) :
    ∃ t, Leads s t ∧ ExchangeEnds s t (pseudoValidate (frameLen s.sel) bytes, s.env) := by
  have hlen := ((Memory.slice_eq_some _ _ _ _).1 hslice).1
  have hread : s.rbuf.read 0 = some (bytes.headD 0) := by
    match bytes with
    | [] => simp [frameLen] at hlen
    | count :: rest => exact read_of_slice hslice 0 (by simp [frameLen])
  have hstep := step_vLen_exchange s (bytes.headD 0) hseq (ne_pollRead_of_exchange hop) hread
  have hs : s.seq ≠ .idle := by simp [hseq]
  by_cases hcount : (bytes.headD 0).toNat = frameLen s.sel
  · obtain ⟨payload, crc, hp, rfl⟩ := exists_eq_responseFrame s.sel bytes hlen hcount
    rw [if_pos ((countOk_iff _ _).2 hcount)] at hstep
    have hcrc := step_vCrc { s with seq := .vCrc } rfl payload crc hp hslice
    rw [checkResponse_eq { s with seq := .vCrc } _ crc hop] at hcrc
    rw [pseudoValidate_responseFrame s.sel payload crc hp]
    by_cases hok : crc16 (responseBody s.sel payload) = crc
    · rw [if_pos hok] at hcrc ⊢
      by_cases hreq : s.op = .request
      · rw [if_pos hreq] at hcrc
        exact ⟨_, leads_step hs hstep (leads_one (by simp) hcrc), exchangeEnds_ok rfl rfl rfl (fun _ => ⟨rfl, rfl⟩)
          fun hc => absurd hreq (ne_request_of_composite _ hc)⟩
      · rw [if_neg hreq] at hcrc
        have hpayload : s.payload = .ok payload := by
          rw [payload_of_slice s _ hslice, responseFrame_payload s.sel payload crc hp]
        exact ⟨_, leads_step hs hstep (leads_one (by simp) hcrc), exchangeEnds_ok rfl rfl rfl
          (fun h => absurd h hreq) fun _ => ⟨rfl, hpayload⟩⟩
    · rw [if_neg hok] at hcrc ⊢
      exact ⟨_, leads_step hs hstep (leads_one (by simp) hcrc), exchangeEnds_error rfl rfl rfl rfl⟩
  · rw [if_neg (mt (countOk_iff _ _).1 hcount)] at hstep
    rw [pseudoValidate, if_pos hcount]
    exact ⟨_, leads_one hs hstep, exchangeEnds_error rfl rfl rfl rfl⟩

/-! ### The read, rows `P_WAIT` to `P_BACKOFF` -/

/-- What polling returns is as long as the reads it makes (R91). -/
theorem pseudoPollTries_length (addr : Addr) (n k : Nat) (e : Env) (bytes : List Byte)
    (h : (pseudoPollTries addr n k e).1 = .ok bytes) : bytes.length = n := by
  induction k generalizing e with
  | zero => cases h
  | succ k ih =>
    cases hr : e.bus.readRes n with
    | ok bs =>
      rw [pseudoPollTries_answered _ _ _ _ bs hr] at h
      cases h
      exact bus_readRes_length _ _ _ hr
    | fail =>
      rw [pseudoPollTries_failed _ _ _ _ hr] at h
      exact ih _ h

/-- The read of an exchange and the tests of what it returns. -/
def pseudoReceive (addr : Addr) (p : Profile) (times : ProfileTimes) (e : Env) : Res × Env :=
  match pseudoPollRead addr (frameLen p) (times.at p).typ (times.at p).max e with
  | (.error k, e) => (.error k, e)
  | (.ok bytes, e) => (pseudoValidate (frameLen p) bytes, e)

theorem pseudoRequest_sent (addr : Addr) (p : Profile) (times : ProfileTimes) (body : List Byte) (e : Env)
    (h : e.bus.writeRes = .ok) : pseudoRequest addr p times body e =
      pseudoReceive addr p times (e.write addr (waCommandByte :: withChecksum body)) := by
  rw [pseudoRequest, h]
  rfl

theorem pseudoRequest_notSent (addr : Addr) (p : Profile) (times : ProfileTimes) (body : List Byte) (e : Env)
    (h : e.bus.writeRes = .fail) : pseudoRequest addr p times body e =
      (.error .io, e.write addr (waCommandByte :: withChecksum body)) := by
  rw [pseudoRequest, h]

theorem receive_leads (s : State) (hseq : s.seq = .pWait) (hop : s.op = .request ∨ s.op.composite = true) :
    ∃ t, Leads s t ∧ ExchangeEnds s t (pseudoReceive s.addr s.sel s.times s.env) := by
  have hne := ne_pollRead_of_exchange hop
  have hn : s.readLen = frameLen s.sel := if_neg hne
  have htyp : s.typUs = (s.times.at s.sel).typ := if_neg hne
  have hmax : s.maxUs = (s.times.at s.sel).max := if_neg hne
  have hfits : readLengthFits s.readLen = true := by
    rw [hn]
    cases s.sel <;> decide
  have hpoll := polling_leads s hseq hfits
  rw [hn, htyp, hmax] at hpoll
  rw [pseudoReceive]
  cases hres : pseudoPollRead s.addr (frameLen s.sel) (s.times.at s.sel).typ (s.times.at s.sel).max s.env with
  | mk r e =>
    rw [hres] at hpoll
    cases r with
    | error k =>
      simp only [pollEnd, hne, if_false] at hpoll
      exact ⟨_, hpoll, exchangeEnds_error rfl rfl rfl rfl⟩
    | ok bytes =>
      simp only [pollEnd, hne, if_false] at hpoll
      have hlen : bytes.length = frameLen s.sel :=
        pseudoPollTries_length s.addr _ _ _ bytes (congrArg Prod.fst hres)
      have hslice : (s.rbuf.writeList 0 bytes).slice 0 (frameLen s.sel) = some bytes := by
        rw [← hlen, Memory.slice_writeList]
      exact exchange_of_leads hpoll (exchange_of_later (validate_leads _ bytes rfl hop hslice) rfl rfl)

/-! ### The write, rows `Q_CRC` and `Q_WRITE` -/

/-- From `Q_CRC` with a frame loaded, the sequencer runs the pseudocode's exchange. -/
theorem exchange_leads (s : State) (count : Byte) (rest : List Byte) (hseq : s.seq = .qCrc)
    (hop : s.op = .request ∨ s.op.composite = true) (h : FrameLoaded s.cbuf waCommandByte count rest) :
    ∃ t, Leads s t ∧ ExchangeEnds s t (pseudoRequest s.addr s.sel s.times (count :: rest) s.env) := by
  have hplace := step_qCrc_frame s waCommandByte count rest hseq h
  have hwrite := step_qWrite_frame { s with
    crc := crc16 (count :: rest),
    cbuf := s.cbuf.writeList (count.toNat - 1) (halfBytes (crc16 (count :: rest))), seq := .qWrite }
    waCommandByte count (rest ++ halfBytes (crc16 (count :: rest))) rfl h.high
    (slice_after_qCrc s.cbuf waCommandByte count rest h)
  have hs : s.seq ≠ .idle := by simp [hseq]
  cases hw : s.bus.writeRes with
  | fail =>
    rw [if_neg (by simp [hw])] at hwrite
    rw [pseudoRequest_notSent _ _ _ _ _ hw]
    exact ⟨_, leads_step hs hplace (leads_one (by simp) hwrite), exchangeEnds_error rfl rfl rfl rfl⟩
  | ok =>
    rw [if_pos hw] at hwrite
    rw [pseudoRequest_sent _ _ _ _ _ hw]
    exact exchange_of_leads (leads_step hs hplace (leads_one (by simp) hwrite))
      (exchange_of_later (receive_leads _ rfl hop) rfl rfl)

/-- An exchange from the state that builds its frame. -/
theorem builtExchange_leads (s : State) (p : Profile) (count : Byte) (rest : List Byte) (hseq : s.seq = .bBuild)
    (hop : s.op.composite = true) (hstep : step s = .next (s.build p (withChecksum (count :: rest))))
    (h7 : 7 ≤ count.toNat) (h39 : count.toNat ≤ 39) (hlen : rest.length + 3 = count.toNat) :
    ∃ t, Leads s t ∧ ExchangeEnds s t (pseudoRequest s.addr p s.times (count :: rest) s.env) := by
  have hloaded := frameLoaded_build s p count rest h7 h39 hlen
  exact exchange_of_leads (leads_one (by simp [hseq]) hstep)
    (exchange_of_later (exchange_leads _ count rest rfl (.inr hop) hloaded) rfl rfl)

/-! ### REQUEST -/

/-- A failed exchange of a standalone REQUEST ends the command (R157). -/
theorem step_xFail_request (s : State) (hseq : s.seq = .xFail) (hop : s.op = .request) :
    step s = .next { s with seq := .done } := by
  rw [step_xFail s hseq, stepXFail, hop, errorEntry_eq, hop]
  rfl

theorem completes_request (s t : State) (p : Res × Env) (hop : s.op = .request) (herr : s.err = none)
    (h : ExchangeEnds s t p) : Completes t p := by
  obtain ⟨r, e⟩ := p
  obtain rfl : t.env = e := h.env
  have htop : t.op = .request := (op_of_context h.context).trans hop
  cases r with
  | error k =>
    obtain ⟨hseq, hk⟩ := h.error k rfl
    exact completes_of_step (by simp [hseq]) (step_xFail_request t hseq htop) (completes_done _ (.error k) rfl hk)
  | ok payload =>
    obtain ⟨he, hreq, -⟩ := h.ok payload rfl
    obtain ⟨hseq, hout⟩ := hreq hop
    exact completes_done t (.ok payload) hseq ⟨he.trans herr, hout⟩

/-- REQUEST of a frame it accepts. -/
theorem request_run (s : State) (addr : Addr) (p : Profile) (F : List Byte) (hs : s.seq = .idle)
    (hfits : requestFits F = true) : ∃ u, Runs (.request addr p F) s u ∧ u.busy = false ∧
      u.result = resultOf (pseudoRequest addr p s.times (requestBody F) s.env).1 ∧
      u.env = (pseudoRequest addr p s.times (requestBody F) s.env).2 := by
  obtain ⟨count, rest, hbody, hloaded⟩ := frameLoaded_request s.cbuf F hfits
  have haccept := exec_request_idle s hs addr p F
  rw [if_pos hfits] at haccept
  obtain ⟨t, ht, hend⟩ := exchange_leads
    { (s.accept .request).loadFrame (requestBody F) with addr := addr, prof := p, sel := p } count rest rfl (.inl rfl)
    hloaded
  rw [hbody]
  exact run_of_completes haccept (completes_of_leads ht (completes_request _ t _ rfl rfl hend))

/-- Settles O48. -/
theorem requestFollowsPseudocode : Obligations.RequestFollowsPseudocode := by
  intro s addr p count rest hs h7 h39 hlen body
  exact request_run s addr p (count :: rest) hs
    ((requestFits_iff (count :: rest)).2 ⟨by simp, h7, h39, by simpa using hlen⟩)

end Sys2Proof.Proofs.Exchange

/-! The wake sequence (spec/43_wake_sleep.md R111) and WAKEUP: at most two attempts, a Sleep byte between them. -/

namespace Sys2Proof.Proofs.Wake

open Sys2Proof.Machine Sys2Proof.Laws Sys2Proof.Proofs.Cleanup Sys2Proof.Proofs.Runs Sys2Proof.Proofs.Exchange

/-! ### One attempt -/

theorem env_busReadInto (s : State) (a : Addr) (n : Nat) : (s.busReadInto a n).env = s.env.read a n := by
  unfold State.busReadInto
  split <;> rfl

theorem context_busReadInto (s : State) (a : Addr) (n : Nat) : context (s.busReadInto a n) = context s := by
  unfold State.busReadInto
  split <;> rfl

/-- After the pulse and the settle delay. -/
def settled (s : State) : State :=
  { s with bus := (s.bus.write wakePulseAddr [wakePulseByte]).delay wakeDelayUs, seq := .wVerify }

/-- After the read of the verification, its answer not yet looked at. -/
def verified (s : State) : State := (settled s).busReadInto s.addr 4

@[simp] theorem verified_op (s : State) : (verified s).op = s.op := busReadInto_op _ _ _
@[simp] theorem verified_addr (s : State) : (verified s).addr = s.addr := busReadInto_addr _ _ _
@[simp] theorem verified_wakeTry (s : State) : (verified s).wakeTry = s.wakeTry := busReadInto_wakeTry _ _ _
@[simp] theorem verified_err (s : State) : (verified s).err = s.err := busReadInto_err _ _ _

theorem verified_env (s : State) : (verified s).env = (settled s).env.read s.addr 4 := env_busReadInto _ _ _

theorem verified_context (s : State) : context (verified s) = context s := context_busReadInto (settled s) s.addr 4

theorem settled_leads (s : State) (hseq : s.seq = .wPulse) : Leads s (settled s) :=
  leads_step (by simp [hseq]) (step_wPulse s hseq) (leads_one (by simp) (step_wSettle _ rfl))

/-- Row `W_VERIFY` (R111). -/
theorem step_settled (s : State) : step (settled s) =
    if (settled s).bus.readRes 4 = .ok wakeSignatureBytes then execWakeSignature (verified s)
    else wakeMismatch (verified s) :=
  step_wVerify (settled s) rfl

/-- One pulse, settle, verify sequence, by the answer of its read. -/
theorem pseudoVerify_eq (addr : Addr) (e : Env) : pseudoVerify addr e =
    if ((e.write 0x00 [0x00]).delay 1500).bus.readRes 4 = .ok [0x04, 0x11, 0x33, 0x43] then
      (true, { ((e.write 0x00 [0x00]).delay 1500).read addr 4 with link := .active })
    else (false, ((e.write 0x00 [0x00]).delay 1500).read addr 4) := by
  cases hr : ((e.write 0x00 [0x00]).delay 1500).bus.readRes 4 with
  | fail => simp only [pseudoVerify, hr, reduceCtorEq, if_false]
  | ok bytes => simp only [pseudoVerify, hr, ReadRes.ok.injEq]

theorem pseudoVerify_match (s : State) (hr : (settled s).bus.readRes 4 = .ok wakeSignatureBytes) :
    pseudoVerify s.addr s.env = (true, { (settled s).env.read s.addr 4 with link := .active }) :=
  (pseudoVerify_eq s.addr s.env).trans (if_pos hr)

theorem pseudoVerify_mismatch (s : State) (hr : (settled s).bus.readRes 4 ≠ .ok wakeSignatureBytes) :
    pseudoVerify s.addr s.env = (false, (settled s).env.read s.addr 4) :=
  (pseudoVerify_eq s.addr s.env).trans (if_neg hr)

/-! ### The sequence -/

/-- A wake sequence has ended with the result `r` in the environment `e`: WAKEUP at `DONE`, a composite command at its
first exchange or, after an error, at its clean-up. -/
structure WakeEnds (s t : State) (p : Res × Env) : Prop where
  context : context t = context s
  env : t.env = p.2
  error : ∀ k, p.1 = .error k → t.err = some k ∧ t.seq = if s.op.composite then .sSleep else .done
  ok : ∀ bytes, p.1 = .ok bytes → t.err = s.err ∧ (s.op = .wakeup → t.seq = .done ∧ t.out = bytes) ∧
    (s.op.composite = true → t.seq = .bBuild)

theorem wakeEnds_error {s t : State} {k : ErrKind} {e : Env} (hc : context t = context s) (he : t.env = e)
    (herr : t.err = some k) (hseq : t.seq = if s.op.composite then .sSleep else .done) :
    WakeEnds s t (.error k, e) where
  context := hc
  env := he
  error := fun k' hk => by
    cases hk
    exact ⟨herr, hseq⟩
  ok := fun bytes hb => by cases hb

theorem wakeEnds_ok {s t : State} {bytes : List Byte} {e : Env} (hc : context t = context s) (he : t.env = e)
    (herr : t.err = s.err) (hwake : s.op = .wakeup → t.seq = .done ∧ t.out = bytes)
    (hcomp : s.op.composite = true → t.seq = .bBuild) : WakeEnds s t (.ok bytes, e) where
  context := hc
  env := he
  error := fun k hk => by cases hk
  ok := fun _ hb => by
    cases hb
    exact ⟨herr, hwake, hcomp⟩

section

variable (s : State) (hseq : s.seq = .wPulse) (hop : s.op = .wakeup ∨ s.op.composite = true)
include hseq hop

theorem wake_match (hr : (settled s).bus.readRes 4 = .ok wakeSignatureBytes) :
    ∃ t, Leads s t ∧ WakeEnds s t (.ok [], (pseudoVerify s.addr s.env).2) := by
  have hstep := step_settled s
  rw [if_pos hr, execWakeSignature_eq _ (by simpa using hop)] at hstep
  have henv := congrArg (fun e => { e with link := .active }) (verified_env s)
  have hctx := verified_context s
  have herr := verified_err s
  rw [pseudoVerify_match s hr]
  by_cases hw : s.op = .wakeup
  · rw [if_pos ((verified_op s).trans hw)] at hstep
    exact ⟨_, (settled_leads s hseq).trans (leads_one (by simp [settled]) hstep), wakeEnds_ok hctx henv herr
      (fun _ => ⟨rfl, rfl⟩) fun hc => by simp [hw, Op.composite] at hc⟩
  · rw [if_neg (by simpa using hw)] at hstep
    exact ⟨_, (settled_leads s hseq).trans (leads_one (by simp [settled]) hstep), wakeEnds_ok hctx henv herr
      (fun h => absurd h hw) fun _ => rfl⟩

/-- A mismatch in the second attempt (D11). -/
theorem wake_last_mismatch (htry : s.wakeTry = true)
    (hr : (settled s).bus.readRes 4 ≠ .ok wakeSignatureBytes) :
    ∃ t, Leads s t ∧ WakeEnds s t (.error .deviceUnavailable, (pseudoVerify s.addr s.env).2) := by
  have hstep := step_settled s
  have hne : s.op ≠ .checksum := by
    intro h
    simp [h, Op.composite] at hop
  rw [if_neg hr, wakeMismatch, verified_wakeTry, if_pos htry, raise_eq, if_neg (by simpa using hne)] at hstep
  rw [pseudoVerify_mismatch s hr]
  exact ⟨_, (settled_leads s hseq).trans (leads_one (by simp [settled]) hstep),
    wakeEnds_error (verified_context s) (verified_env s) rfl (by rw [← verified_op s])⟩

omit hop in
/-- A mismatch in the first attempt: the Sleep byte, and the second attempt. -/
theorem wake_first_mismatch (htry : s.wakeTry = false)
    (hr : (settled s).bus.readRes 4 ≠ .ok wakeSignatureBytes) :
    ∃ t, Leads s t ∧ context t = context s ∧ t.env = (pseudoSleep s.addr (pseudoVerify s.addr s.env).2).2 ∧
      t.seq = .wPulse ∧ t.wakeTry = true ∧ t.err = s.err := by
  have hstep := step_settled s
  rw [if_neg hr, wakeMismatch, verified_wakeTry, if_neg (by simp [htry])] at hstep
  have hsleep := step_sleepBetweenAttempts { verified s with seq := .wResleep } rfl
  have henv := congrArg (fun e => (pseudoSleep s.addr e).2) (verified_env s)
  rw [pseudoVerify_mismatch s hr]
  refine ⟨_, (settled_leads s hseq).trans (leads_step (by simp [settled]) hstep (leads_one (by simp) hsleep)),
    verified_context s, ?_, rfl, rfl, verified_err s⟩
  rw [← henv, ← verified_addr s]
  exact env_after_sleep (verified s)

/-- From the first pulse the sequencer runs the pseudocode's WAKEUP. -/
theorem wake_leads (htry : s.wakeTry = false) :
    ∃ t, Leads s t ∧ WakeEnds s t (pseudoWakeup s.addr s.env) := by
  by_cases hr : (settled s).bus.readRes 4 = .ok wakeSignatureBytes
  · have hp : pseudoWakeup s.addr s.env = (.ok [], (pseudoVerify s.addr s.env).2) := by
      rw [pseudoWakeup, pseudoVerify_match s hr]
    rw [hp]
    exact wake_match s hseq hop hr
  · obtain ⟨u, hu, hctx, henv, hseq', htry', herr⟩ := wake_first_mismatch s hseq htry hr
    have haddr := addr_of_context hctx
    have hop' := op_of_context hctx
    have hlift : ∀ p, (∃ t, Leads u t ∧ WakeEnds u t p) → ∃ t, Leads s t ∧ WakeEnds s t p := by
      rintro p ⟨t, ht, hend⟩
      have hok := hend.ok
      have herror := hend.error
      rw [hop', herr] at hok
      rw [hop'] at herror
      exact ⟨t, hu.trans ht, hend.context.trans hctx, hend.env, herror, hok⟩
    have hfirst := pseudoVerify_mismatch s hr
    rw [hfirst] at henv
    by_cases hr' : (settled u).bus.readRes 4 = .ok wakeSignatureBytes
    · have hp : pseudoWakeup s.addr s.env = (.ok [], (pseudoVerify u.addr u.env).2) := by
        rw [pseudoWakeup, hfirst]
        dsimp only
        rw [← henv, ← haddr, pseudoVerify_match u hr']
      rw [hp]
      exact hlift _ (wake_match u hseq' (hop' ▸ hop) hr')
    · have hp : pseudoWakeup s.addr s.env = (.error .deviceUnavailable, (pseudoVerify u.addr u.env).2) := by
        rw [pseudoWakeup, hfirst]
        dsimp only
        rw [← henv, ← haddr, pseudoVerify_mismatch u hr']
      rw [hp]
      exact hlift _ (wake_last_mismatch u hseq' (hop' ▸ hop) htry' hr')

end

/-- Settles O46. -/
theorem wakeupFollowsPseudocode : Obligations.WakeupFollowsPseudocode := by
  intro s addr hs
  have haccept : exec (.wakeup addr) s = .next { s.accept .wakeup with addr := addr } := whenIdle_idle s _ hs
  obtain ⟨t, ht, hend⟩ := wake_leads { s.accept .wakeup with addr := addr } rfl (.inl rfl) rfl
  refine run_of_completes haccept (completes_of_leads ht ?_)
  have henv : t.env = (pseudoWakeup addr s.env).2 := hend.env
  have herror := hend.error
  have hok := hend.ok
  cases hp : pseudoWakeup addr s.env with
  | mk r e =>
    rw [hp] at henv
    obtain rfl : t.env = e := henv
    cases r with
    | error k =>
      obtain ⟨hk, hseq⟩ := herror k (congrArg Prod.fst hp)
      exact completes_done t (.error k) hseq hk
    | ok bytes =>
      obtain ⟨herr, hdone, -⟩ := hok bytes (congrArg Prod.fst hp)
      obtain ⟨hseq, hout⟩ := hdone rfl
      exact completes_done t (.ok bytes) hseq ⟨herr, hout⟩

end Sys2Proof.Proofs.Wake

/-! The composite commands (spec/45_operations.md R130 to R134): WAKEUP, the exchanges, and the clean-up Sleep. -/

namespace Sys2Proof.Proofs.Composite

open Sys2Proof.Machine Sys2Proof.Laws Sys2Proof.Proofs.Moves Sys2Proof.Proofs.Reach Sys2Proof.Proofs.Runs
  Sys2Proof.Proofs.Exchange Sys2Proof.Proofs.Wake

/-! ### The bracket -/

/-- From `s` a composite command comes to its clean-up Sleep with this result and this environment. -/
def Delivers (s : State) (p : Res × Env) : Prop :=
  ∃ t, Leads s t ∧ t.seq = .sSleep ∧ t.op.composite = true ∧ t.addr = s.addr ∧ Holds t p.1 ∧ t.env = p.2

theorem delivers_of_leads {s t : State} {p : Res × Env} (h : Leads s t) (haddr : t.addr = s.addr)
    (ht : Delivers t p) : Delivers s p := by
  obtain ⟨u, hu, hseq, hop, ha, hend⟩ := ht
  exact ⟨u, h.trans hu, hseq, hop, ha.trans haddr, hend⟩

theorem completes_of_delivers {s : State} {p : Res × Env} (h : Delivers s p) :
    Completes s (p.1, (pseudoSleep s.addr p.2).2) := by
  obtain ⟨t, ht, hseq, hop, haddr, hres, henv⟩ := h
  rw [← haddr, ← henv]
  exact completes_of_leads ht (completes_cleanup t p.1 hseq hop hres)

/-- The common shape of the composite commands (R130), given what their exchanges deliver. -/
theorem completes_bracket (s : State) (exchanges : Env → Res × Env) (hseq : s.seq = .wPulse)
    (hop : s.op.composite = true) (htry : s.wakeTry = false) (herr : s.err = none)
    (h : ∀ t, context t = context s → t.seq = .bBuild → t.err = none → Delivers t (exchanges t.env)) :
    Completes s (pseudoBracket s.addr exchanges s.env) := by
  obtain ⟨t, ht, hend⟩ := wake_leads s hseq (.inr hop) htry
  have haddr : t.addr = s.addr := addr_of_context hend.context
  have htop : t.op.composite = true := by rwa [op_of_context hend.context]
  refine completes_of_leads ht ?_
  cases hp : pseudoWakeup s.addr s.env with
  | mk r e =>
    rw [hp] at hend
    obtain rfl : t.env = e := hend.env
    rw [pseudoBracket, hp, ← haddr]
    cases r with
    | error k =>
      obtain ⟨hk, hsleep⟩ := hend.error k rfl
      rw [if_pos hop] at hsleep
      exact completes_cleanup t (.error k) hsleep htop hk
    | ok bytes =>
      obtain ⟨hterr, -, hbuild⟩ := hend.ok bytes rfl
      exact completes_of_delivers (h t hend.context (hbuild hop) (hterr.trans herr))

/-- The operands of the command that runs, its table of times and how far it has come. -/
structure SameOperands (s t : State) : Prop where
  op : t.op = s.op
  addr : t.addr = s.addr
  zone : t.zone = s.zone
  slot : t.slot = s.slot
  block : t.block = s.block
  offset : t.offset = s.offset
  rlen : t.rlen = s.rlen
  data : t.data = s.data
  times : t.times = s.times
  exch : t.exch = s.exch
  serialTry : t.serialTry = s.serialTry

theorem sameOperands_of_context {s t : State} (h : context t = context s) : SameOperands s t where
  op := op_of_context h
  addr := addr_of_context h
  zone := (congrArg State.zone h : (context t).zone = (context s).zone)
  slot := (congrArg State.slot h : (context t).slot = (context s).slot)
  block := (congrArg State.block h : (context t).block = (context s).block)
  offset := (congrArg State.offset h : (context t).offset = (context s).offset)
  rlen := (congrArg State.rlen h : (context t).rlen = (context s).rlen)
  data := (congrArg State.data h : (context t).data = (context s).data)
  times := (congrArg State.times h : (context t).times = (context s).times)
  exch := (congrArg State.exch h : (context t).exch = (context s).exch)
  serialTry := (congrArg State.serialTry h : (context t).serialTry = (context s).serialTry)

/-- A composite command from its argument check on, once the check is passed. -/
theorem completes_checked (s : State) (exchanges : Env → Res × Env) (hseq : s.seq = .aCheck)
    (hstep : step s = .next { s with seq := .wPulse }) (hop : s.op.composite = true) (htry : s.wakeTry = false)
    (herr : s.err = none)
    (h : ∀ t, SameOperands s t → t.seq = .bBuild → t.err = none → Delivers t (exchanges t.env)) :
    Completes s (pseudoBracket s.addr exchanges s.env) :=
  completes_of_step (by simp [hseq]) hstep
    (completes_bracket { s with seq := .wPulse } exchanges rfl hop htry herr fun t hc =>
      h t (sameOperands_of_context hc))

/-! ### The end of an exchange: rows `X_FAIL` and `X_PAYLOAD` -/

/-- A failed exchange goes to the clean-up, but for the first of READ_SERIAL (R132, R156). -/
theorem step_xFail_composite (s : State) (hseq : s.seq = .xFail) (hop : s.op.composite = true)
    (h : s.op = .readSerial → s.serialTry = true) : step s = .next { s with seq := .sSleep } := by
  have hne : s.op ≠ .checksum := by
    intro hc
    simp [hc, Op.composite] at hop
  rw [step_xFail s hseq, stepXFail]
  split
  next hser htry => simp [h hser] at htry
  next => rw [errorEntry_eq, if_neg hne, if_pos hop]

/-- The tolerated failure of READ_SERIAL's first exchange (R132). -/
theorem step_xFail_repeat (s : State) (hseq : s.seq = .xFail) (hop : s.op = .readSerial) (htry : s.serialTry = false) :
    step s = .next { s with serialTry := true, err := none, seq := .bBuild } := by
  rw [step_xFail s hseq, stepXFail, hop, htry]

section

variable (s : State) (bytes : List Byte) (hseq : s.seq = .xPayload) (hp : s.payload = .ok bytes)
include hseq hp

theorem step_xPayload_readZone (hop : s.op = .readZone) : step s = .next { s with out := bytes, seq := .sSleep } := by
  have hrow : stepXPayload s = payloadReadZone s := by rw [stepXPayload, hop]
  rw [step_xPayload s hseq, hrow, payloadReadZone, hp]
  rfl

theorem step_xPayload_derivePublicKey (hop : s.op = .derivePublicKey) :
    step s = .next { s with out := bytes, seq := .sSleep } := by
  have hrow : stepXPayload s = payloadDerivePublicKey s := by rw [stepXPayload, hop]
  rw [step_xPayload s hseq, hrow, payloadDerivePublicKey, hp]
  rfl

theorem step_xPayload_readSerial (hop : s.op = .readSerial) :
    step s = .next { s with out := serialOf bytes, seq := .sSleep } := by
  have hrow : stepXPayload s = payloadReadSerial s := by rw [stepXPayload, hop]
  rw [step_xPayload s hseq, hrow, payloadReadSerial, hp]
  rfl

theorem step_xPayload_sign (hop : s.op = .sign) : step s =
    if s.exch then .next { s with out := bytes, seq := .sSleep }
    else if statusOk (bytes.headD 0) then .next { s with exch := true, seq := .bBuild }
    else s.raise .protocol := by
  have hrow : stepXPayload s = payloadSign s := by rw [stepXPayload, hop]
  rw [step_xPayload s hseq, hrow, payloadSign, hp]
  rfl

end

/-! ### An exchange whose payload is the output -/

theorem delivers_error {s t : State} {k : ErrKind} {e : Env} (ht : Leads s t) (hend : ExchangeEnds s t (.error k, e))
    (hop : s.op.composite = true) (hser : t.op = .readSerial → t.serialTry = true) : Delivers s (.error k, e) := by
  obtain ⟨hseq, hk⟩ := hend.error k rfl
  have htop : t.op.composite = true := by rwa [op_of_context hend.context]
  exact ⟨_, ht.trans (leads_one (by simp [hseq]) (step_xFail_composite t hseq htop hser)), rfl, htop,
    addr_of_context hend.context, hk, hend.env⟩

theorem delivers_ok {s t : State} {payload out : List Byte} {e : Env} (ht : Leads s t)
    (hend : ExchangeEnds s t (.ok payload, e)) (hop : s.op.composite = true) (herr : s.err = none)
    (hstep : t.seq = .xPayload → t.payload = .ok payload → step t = .next { t with out := out, seq := .sSleep }) :
    Delivers s (.ok out, e) := by
  obtain ⟨hterr, -, hcomp⟩ := hend.ok payload rfl
  obtain ⟨hseq, hpayload⟩ := hcomp hop
  have htop : t.op.composite = true := by rwa [op_of_context hend.context]
  exact ⟨_, ht.trans (leads_one (by simp [hseq]) (hstep hseq hpayload)), rfl, htop, addr_of_context hend.context,
    ⟨hterr.trans herr, rfl⟩, hend.env⟩

/-- An exchange whose payload is the output, as received. -/
theorem delivers_payload {s : State} {p : Res × Env} (h : ∃ t, Leads s t ∧ ExchangeEnds s t p)
    (hop : s.op.composite = true) (herr : s.err = none) (hne : s.op ≠ .readSerial)
    (hstep : ∀ t bytes, context t = context s → t.seq = .xPayload → t.payload = .ok bytes →
      step t = .next { t with out := bytes, seq := .sSleep }) : Delivers s p := by
  obtain ⟨t, ht, hend⟩ := h
  obtain ⟨r, e⟩ := p
  cases r with
  | error k => exact delivers_error ht hend hop fun hser => absurd ((op_of_context hend.context).symm.trans hser) hne
  | ok payload => exact delivers_ok ht hend hop herr (hstep t payload hend.context)

/-! ### READ_ZONE -/

theorem exec_readZone_idle (s : State) (addr : Addr) (zone : Zone) (slot block offset rlen : Byte)
    (hs : s.seq = .idle) : exec (.readZone addr zone slot block offset rlen) s = .next { s.accept .readZone with
      addr := addr, zone := zone, slot := slot, block := block, offset := offset, rlen := rlen } :=
  whenIdle_idle s _ hs

/-- Row `A_CHECK` of READ_ZONE (R131). -/
theorem step_aCheck_readZone (s : State) (hseq : s.seq = .aCheck) (hop : s.op = .readZone) : step s =
    if rlenFits s.rlen then .next { s with seq := .wPulse }
    else .next { s with err := some .invalidArgument, seq := .done } := by
  rw [step_aCheck s hseq, stepACheck, hop]

theorem rlenFits_iff (rlen : Byte) : rlenFits rlen = true ↔ rlen = 4 ∨ rlen = 32 := by
  simp [rlenFits]

/-- The exchange of READ_ZONE. -/
theorem readZone_delivers (s : State) (hseq : s.seq = .bBuild) (hop : s.op = .readZone) (herr : s.err = none) :
    Delivers s (pseudoRequest s.addr (zoneProfile s.rlen) s.times
      (readBody (decide (s.rlen = 32)) s.zone (zoneAddress s.zone s.slot s.block s.offset)) s.env) := by
  have hcomp : s.op.composite = true := by rw [hop]; rfl
  refine delivers_payload (builtExchange_leads s _ 0x07 _ hseq hcomp (step_bBuild_readZone s hseq hop) (by decide)
    (by decide) rfl) hcomp herr (by simp [hop]) fun t bytes hc ht hp => ?_
  exact step_xPayload_readZone t bytes ht hp ((op_of_context hc).trans hop)

theorem pseudoReadZone_eq (addr : Addr) (zone : Zone) (slot block offset rlen : Byte) (times : ProfileTimes) (e : Env)
    (h : rlenFits rlen = true) : pseudoReadZone addr zone slot block offset rlen times e =
      pseudoBracket addr (pseudoRequest addr (zoneProfile rlen) times
        (readBody (decide (rlen = 32)) zone (zoneAddress zone slot block offset))) e := by
  rcases (rlenFits_iff rlen).1 h with rfl | rfl
  · rfl
  · rfl

theorem readZone_completes (s : State) (hseq : s.seq = .aCheck) (hop : s.op = .readZone) (htry : s.wakeTry = false)
    (herr : s.err = none) :
    Completes s (pseudoReadZone s.addr s.zone s.slot s.block s.offset s.rlen s.times s.env) := by
  have hstep := step_aCheck_readZone s hseq hop
  by_cases hfits : rlenFits s.rlen = true
  · rw [if_pos hfits] at hstep
    rw [pseudoReadZone_eq _ _ _ _ _ _ _ _ hfits]
    refine completes_checked s _ hseq hstep (by rw [hop]; rfl) htry herr fun t ho ht hterr => ?_
    have hd := readZone_delivers t ht (ho.op.trans hop) hterr
    rwa [ho.addr, ho.zone, ho.slot, ho.block, ho.offset, ho.rlen, ho.times] at hd
  · rw [if_neg hfits] at hstep
    have hbad : s.rlen ≠ 4 ∧ s.rlen ≠ 32 := not_or.1 (mt (rlenFits_iff s.rlen).2 hfits)
    rw [pseudoReadZone, if_pos hbad]
    exact completes_of_step (by simp [hseq]) hstep
      (completes_done { s with err := some .invalidArgument, seq := .done } (.error .invalidArgument) rfl rfl)

/-- Settles O49. -/
theorem readZoneFollowsPseudocode : Obligations.ReadZoneFollowsPseudocode := by
  intro s addr zone slot block offset rlen hs
  exact run_of_completes (exec_readZone_idle s addr zone slot block offset rlen hs)
    (readZone_completes _ rfl rfl rfl rfl)

/-- Settles O56. -/
theorem badReadLengthTouchesNoBus : Obligations.BadReadLengthTouchesNoBus := by
  intro s addr zone slot block offset rlen hs h4 h32
  obtain ⟨u, hrun, -, hres, henv⟩ := readZoneFollowsPseudocode s addr zone slot block offset rlen hs
  rw [pseudoReadZone, if_pos ⟨h4, h32⟩] at hres henv
  exact ⟨u, hrun, hres, congrArg Env.bus henv, congrArg Env.link henv⟩

/-! ### DERIVE_PUBLIC_KEY -/

theorem derivePublicKey_delivers (s : State) (hseq : s.seq = .bBuild) (hop : s.op = .derivePublicKey)
    (herr : s.err = none) :
    Delivers s (pseudoRequest s.addr .genKey s.times [0x07, 0x40, 0x00, s.slot, 0x00] s.env) := by
  have hcomp : s.op.composite = true := by rw [hop]; rfl
  refine delivers_payload (builtExchange_leads s _ 0x07 _ hseq hcomp (step_bBuild_derivePublicKey s hseq hop)
    (by decide) (by decide) rfl) hcomp herr (by simp [hop]) fun t bytes hc ht hp => ?_
  exact step_xPayload_derivePublicKey t bytes ht hp ((op_of_context hc).trans hop)

theorem derivePublicKey_completes (s : State) (hseq : s.seq = .aCheck) (hop : s.op = .derivePublicKey)
    (htry : s.wakeTry = false) (herr : s.err = none) :
    Completes s (pseudoDerivePublicKey s.addr s.slot s.times s.env) := by
  have hstep : step s = .next { s with seq := .wPulse } := by rw [step_aCheck s hseq, stepACheck, hop]
  refine completes_checked s _ hseq hstep (by rw [hop]; rfl) htry herr fun t ho ht hterr => ?_
  have hd := derivePublicKey_delivers t ht (ho.op.trans hop) hterr
  rwa [ho.addr, ho.slot, ho.times] at hd

/-- Settles O51. -/
theorem derivePublicKeyFollowsPseudocode : Obligations.DerivePublicKeyFollowsPseudocode := by
  intro s addr slot hs
  have haccept : exec (.derivePublicKey addr slot) s =
      .next { s.accept .derivePublicKey with addr := addr, slot := slot } := whenIdle_idle s _ hs
  exact run_of_completes haccept (derivePublicKey_completes _ rfl rfl rfl rfl)

/-! ### READ_SERIAL -/

/-- An exchange of READ_SERIAL. -/
theorem readSerial_exchange (s : State) (hseq : s.seq = .bBuild) (hop : s.op = .readSerial) :
    ∃ t, Leads s t ∧
      ExchangeEnds s t (pseudoRequest s.addr .read32 s.times [0x07, 0x02, 0x80, 0x00, 0x00] s.env) :=
  builtExchange_leads s _ 0x07 _ hseq (by rw [hop]; rfl) (step_bBuild_readSerial s hseq hop) (by decide) (by decide) rfl

section

variable (addr : Addr) (times : ProfileTimes) (e e' : Env)

theorem pseudoReadSerialExchanges_first (B : List Byte)
    (h : pseudoRequest addr .read32 times [0x07, 0x02, 0x80, 0x00, 0x00] e = (.ok B, e')) :
    pseudoReadSerialExchanges addr times e = (.ok (serialOf B), e') := by
  rw [pseudoReadSerialExchanges, h]

theorem pseudoReadSerialExchanges_second (k : ErrKind)
    (h : pseudoRequest addr .read32 times [0x07, 0x02, 0x80, 0x00, 0x00] e = (.error k, e')) :
    pseudoReadSerialExchanges addr times e =
      ((pseudoRequest addr .read32 times [0x07, 0x02, 0x80, 0x00, 0x00] e').1.map serialOf,
        (pseudoRequest addr .read32 times [0x07, 0x02, 0x80, 0x00, 0x00] e').2) := by
  rw [pseudoReadSerialExchanges, h]
  cases hr : pseudoRequest addr .read32 times [0x07, 0x02, 0x80, 0x00, 0x00] e' with
  | mk r e'' =>
    cases r with
    | error k' =>
      simp only [hr]
      rfl
    | ok B =>
      simp only [hr]
      rfl

end

section

variable (s : State) (hseq : s.seq = .bBuild) (hop : s.op = .readSerial) (herr : s.err = none)
include hseq hop herr

/-- The second exchange of READ_SERIAL. -/
theorem secondSerial_delivers (htry : s.serialTry = true) : Delivers s
    ((pseudoRequest s.addr .read32 s.times [0x07, 0x02, 0x80, 0x00, 0x00] s.env).1.map serialOf,
      (pseudoRequest s.addr .read32 s.times [0x07, 0x02, 0x80, 0x00, 0x00] s.env).2) := by
  have hcomp : s.op.composite = true := by rw [hop]; rfl
  obtain ⟨t, ht, hend⟩ := readSerial_exchange s hseq hop
  have ho := sameOperands_of_context hend.context
  cases hp : pseudoRequest s.addr .read32 s.times [0x07, 0x02, 0x80, 0x00, 0x00] s.env with
  | mk r e =>
    rw [hp] at hend
    cases r with
    | ok payload =>
      exact delivers_ok ht hend hcomp herr fun hx hpay => step_xPayload_readSerial t payload hx hpay (ho.op.trans hop)
    | error k => exact delivers_error ht hend hcomp fun _ => ho.serialTry.trans htry

/-- The exchanges of READ_SERIAL: the second only after a failure of the first, its error the command's (R132). -/
theorem readSerial_delivers (htry : s.serialTry = false) :
    Delivers s (pseudoReadSerialExchanges s.addr s.times s.env) := by
  have hcomp : s.op.composite = true := by rw [hop]; rfl
  obtain ⟨t, ht, hend⟩ := readSerial_exchange s hseq hop
  have ho := sameOperands_of_context hend.context
  have htop := ho.op.trans hop
  cases hp : pseudoRequest s.addr .read32 s.times [0x07, 0x02, 0x80, 0x00, 0x00] s.env with
  | mk r e =>
    rw [hp] at hend
    cases r with
    | ok payload =>
      rw [pseudoReadSerialExchanges_first _ _ _ _ _ hp]
      exact delivers_ok ht hend hcomp herr fun hx hpay => step_xPayload_readSerial t payload hx hpay htop
    | error k =>
      obtain ⟨htseq, -⟩ := hend.error k rfl
      have hstep := step_xFail_repeat t htseq htop (ho.serialTry.trans htry)
      obtain rfl : t.env = e := hend.env
      rw [pseudoReadSerialExchanges_second _ _ _ _ _ hp, ← ho.addr, ← ho.times]
      exact delivers_of_leads (ht.trans (leads_one (by simp [htseq]) hstep)) ho.addr
        (secondSerial_delivers { t with serialTry := true, err := none, seq := .bBuild } rfl htop rfl rfl)

end

theorem readSerial_completes (s : State) (hseq : s.seq = .aCheck) (hop : s.op = .readSerial)
    (htry : s.wakeTry = false) (herr : s.err = none) (hser : s.serialTry = false) :
    Completes s (pseudoReadSerial s.addr s.times s.env) := by
  have hstep : step s = .next { s with seq := .wPulse } := by rw [step_aCheck s hseq, stepACheck, hop]
  refine completes_checked s _ hseq hstep (by rw [hop]; rfl) htry herr fun t ho ht hterr => ?_
  have hd := readSerial_delivers t ht (ho.op.trans hop) hterr (ho.serialTry.trans hser)
  rwa [ho.addr, ho.times] at hd

/-- Settles O50. -/
theorem readSerialFollowsPseudocode : Obligations.ReadSerialFollowsPseudocode := by
  intro s addr hs
  have haccept : exec (.readSerial addr) s = .next { s.accept .readSerial with addr := addr } := whenIdle_idle s _ hs
  exact run_of_completes haccept (readSerial_completes _ rfl rfl rfl rfl rfl)

/-! ### SIGN_CMD -/

theorem statusOk_iff (status : Byte) : statusOk status = true ↔ status = 0x00 := beq_iff_eq

/-- The Sign exchange. -/
theorem signature_delivers (s : State) (hseq : s.seq = .bBuild) (hop : s.op = .sign) (herr : s.err = none)
    (hx : s.exch = true) : Delivers s (pseudoRequest s.addr .sign s.times [0x07, 0x41, 0x80, s.slot, 0x00] s.env) := by
  have hcomp : s.op.composite = true := by rw [hop]; rfl
  refine delivers_payload (builtExchange_leads s _ 0x07 _ hseq hcomp (step_bBuild_sign s hseq hop hx)
    (by decide) (by decide) rfl) hcomp herr (by simp [hop]) fun t bytes hc ht hp => ?_
  have hstep := step_xPayload_sign t bytes ht hp ((op_of_context hc).trans hop)
  rwa [if_pos ((sameOperands_of_context hc).exch.trans hx)] at hstep

/-- The exchanges of SIGN: the status test of the Nonce response decides whether there is a second (R134). -/
theorem sign_delivers (s : State) (hseq : s.seq = .bBuild) (hop : s.op = .sign) (herr : s.err = none)
    (hx : s.exch = false) : Delivers s (pseudoSignExchanges s.addr s.slot s.data s.times s.env) := by
  have hcomp : s.op.composite = true := by rw [hop]; rfl
  obtain ⟨t, ht, hend⟩ := builtExchange_leads s .nonce 0x27 _ hseq hcomp (step_bBuild_nonce s hseq hop hx)
    (by decide) (by decide) (by simp)
  have ho := sameOperands_of_context hend.context
  have htop := ho.op.trans hop
  rw [pseudoSignExchanges]
  cases hp : pseudoRequest s.addr .nonce s.times ([0x27, 0x16, 0x03, 0x00, 0x00] ++ s.data.toList) s.env with
  | mk r e =>
    have hend : ExchangeEnds s t (r, e) := hp ▸ hend
    cases r with
    | error k => exact delivers_error ht hend hcomp fun hser => by simp [htop] at hser
    | ok status =>
      obtain ⟨hterr, -, hcomposite⟩ := hend.ok status rfl
      obtain ⟨htseq, hpayload⟩ := hcomposite hcomp
      have htx : t.exch = false := ho.exch.trans hx
      have hstep := step_xPayload_sign t status htseq hpayload htop
      rw [if_neg (by simp [htx])] at hstep
      obtain rfl : t.env = e := hend.env
      dsimp only
      by_cases hok : status.headD 0 = 0x00
      · rw [if_pos ((statusOk_iff _).2 hok)] at hstep
        rw [if_pos hok, ← ho.addr, ← ho.slot, ← ho.times]
        exact delivers_of_leads (ht.trans (leads_one (by simp [htseq]) hstep)) ho.addr
          (signature_delivers { t with exch := true, seq := .bBuild } rfl htop (hterr.trans herr) rfl)
      · rw [if_neg (mt (statusOk_iff _).1 hok), raise_composite t _ (by rw [htop]; rfl)] at hstep
        rw [if_neg hok]
        exact ⟨_, ht.trans (leads_one (by simp [htseq]) hstep), rfl, by rw [htop]; rfl, ho.addr, rfl, rfl⟩

theorem sign_completes (s : State) (hseq : s.seq = .aCheck) (hop : s.op = .sign) (htry : s.wakeTry = false)
    (herr : s.err = none) (hx : s.exch = false) : Completes s (pseudoSign s.addr s.slot s.data s.times s.env) := by
  have hstep : step s = .next { s with seq := .wPulse } := by rw [step_aCheck s hseq, stepACheck, hop]
  refine completes_checked s _ hseq hstep (by rw [hop]; rfl) htry herr fun t ho ht hterr => ?_
  have hd := sign_delivers t ht (ho.op.trans hop) hterr (ho.exch.trans hx)
  rwa [ho.addr, ho.slot, ho.data, ho.times] at hd

/-- Settles O52. -/
theorem signFollowsPseudocode : Obligations.SignFollowsPseudocode := by
  intro s addr slot data hs
  have haccept : exec (.signCmd addr slot data) s =
      .next { s.accept .sign with addr := addr, slot := slot, data := data } := whenIdle_idle s _ hs
  exact run_of_completes haccept (sign_completes _ rfl rfl rfl rfl rfl)

end Sys2Proof.Proofs.Composite

/-! What a command puts on the bus: the pseudocode of spec/40_checksum.md to spec/45_operations.md read as a function
from the bus's answers to the events it appends. -/

namespace Sys2Proof.Proofs.Emission

open Sys2Proof.Machine Sys2Proof.Laws Sys2Proof.Proofs.Poll Sys2Proof.Proofs.Exchange

/-! ### The answers to come -/

/-- Two environments whose buses answer alike from here on. -/
structure SameOracle (e e' : Env) : Prop where
  answers : e'.bus.answers = e.bus.answers
  ansIdx : e'.bus.ansIdx = e.bus.ansIdx

theorem sameOracle_refl (e : Env) : SameOracle e e := ⟨rfl, rfl⟩

section

variable {e e' : Env} (h : SameOracle e e')
include h

theorem sameOracle_writeRes : e'.bus.writeRes = e.bus.writeRes := bus_writeRes_congr _ _ h.answers h.ansIdx

theorem sameOracle_readRes (n : Nat) : e'.bus.readRes n = e.bus.readRes n :=
  bus_readRes_congr _ _ _ h.answers h.ansIdx

theorem sameOracle_write (a a' : Addr) (bytes bytes' : List Byte) : SameOracle (e.write a bytes) (e'.write a' bytes') :=
  ⟨congrArg List.tail h.answers, congrArg (· + 1) h.ansIdx⟩

theorem sameOracle_read (a : Addr) (n : Nat) : SameOracle (e.read a n) (e'.read a n) :=
  ⟨congrArg List.tail h.answers, congrArg (· + 1) h.ansIdx⟩

theorem sameOracle_delay (us : Nat) : SameOracle (e.delay us) (e'.delay us) := ⟨h.answers, h.ansIdx⟩

end

/-! ### Appending events -/

/-- With the answers that `e` has to come, and whatever else an environment holds, `f` has one result and appends the
events `es`. -/
def Emits {α : Type} (f : Env → α × Env) (e : Env) (es : List Event) : Prop :=
  ∀ e', SameOracle e e' →
    (f e').1 = (f e).1 ∧ (f e').2.bus.trace = e'.bus.trace ++ es ∧ SameOracle (f e).2 (f e').2

section

variable {α β : Type} {f : Env → α × Env} {e : Env} {es : List Event}

theorem trace_of_emits (h : Emits f e es) : (f e).2.bus.trace = e.bus.trace ++ es :=
  (h e (sameOracle_refl e)).2.1

/-- One computation after another. -/
theorem emits_seq {g h : Env → β × Env} {es' : List Event} (hf : Emits f e es) (hg : Emits g (f e).2 es')
    (hh : ∀ e', (f e').1 = (f e).1 → h e' = g (f e').2) : Emits h e (es ++ es') := by
  intro e' hs
  obtain ⟨hres, htrace, hs'⟩ := hf e' hs
  obtain ⟨hres', htrace', hs''⟩ := hg _ hs'
  rw [hh e' hres, hh e rfl]
  exact ⟨hres', by rw [htrace', htrace, List.append_assoc], hs''⟩

/-- A computation whose result is put in another form. -/
theorem emits_map {h : Env → β × Env} (φ : α → β) (hf : Emits f e es) (hh : ∀ e', h e' = (φ (f e').1, (f e').2)) :
    Emits h e es := by
  intro e' hs
  obtain ⟨hres, htrace, hs'⟩ := hf e' hs
  rw [hh e', hh e]
  exact ⟨congrArg φ hres, htrace, hs'⟩

/-- One computation after another, the result that of the first. -/
theorem emits_then {g : Env → β × Env} {es' : List Event} (hf : Emits f e es) (hg : Emits g (f e).2 es') :
    Emits (fun e => ((f e).1, (g (f e).2).2)) e (es ++ es') :=
  emits_seq hf (emits_map (fun _ => (f e).1) hg fun _ => rfl) fun _ h => by rw [h]

end

theorem emits_none {α : Type} (a : α) (e : Env) : Emits (fun e => (a, e)) e [] :=
  fun _ hs => ⟨rfl, by simp, hs⟩

theorem emits_write (a : Addr) (bytes : List Byte) (e : Env) :
    Emits (fun e => (e.bus.writeRes, e.write a bytes)) e [.write a bytes e.bus.writeRes] := by
  intro e' hs
  refine ⟨sameOracle_writeRes hs, ?_, sameOracle_write hs a a bytes bytes⟩
  rw [← sameOracle_writeRes hs]
  rfl

theorem emits_delay (us : Nat) (e : Env) : Emits (fun e => ((), e.delay us)) e [.delay us] :=
  fun _ hs => ⟨rfl, rfl, sameOracle_delay hs us⟩

/-! ### Counting events (R199) -/

/-- The events are at most those the bounds allow. -/
structure Within (b : Bounds) (es : List Event) : Prop where
  writes : countWrites es ≤ b.writes
  reads : countReads es ≤ b.reads
  delays : countDelays es ≤ b.delays
  sum : delaySum es ≤ b.delaySum

theorem within_nil : Within ⟨0, 0, 0, 0⟩ [] := ⟨Nat.le_refl _, Nat.le_refl _, Nat.le_refl _, Nat.le_refl _⟩

theorem within_mono {b c : Bounds} {es : List Event} (h : Within b es) (hw : b.writes ≤ c.writes)
    (hr : b.reads ≤ c.reads) (hd : b.delays ≤ c.delays) (hs : b.delaySum ≤ c.delaySum) : Within c es :=
  ⟨h.writes.trans hw, h.reads.trans hr, h.delays.trans hd, h.sum.trans hs⟩

theorem within_append {b c d : Bounds} {es es' : List Event} (h : Within b es) (h' : Within c es')
    (hw : b.writes + c.writes ≤ d.writes) (hr : b.reads + c.reads ≤ d.reads) (hd : b.delays + c.delays ≤ d.delays)
    (hs : b.delaySum + c.delaySum ≤ d.delaySum) : Within d (es ++ es') where
  writes := by
    have h1 := h.writes
    have h2 := h'.writes
    rw [countWrites] at *
    rw [List.countP_append]
    omega
  reads := by
    have h1 := h.reads
    have h2 := h'.reads
    rw [countReads] at *
    rw [List.countP_append]
    omega
  delays := by
    have h1 := h.delays
    have h2 := h'.delays
    rw [countDelays] at *
    rw [List.countP_append]
    omega
  sum := by
    have h1 := h.sum
    have h2 := h'.sum
    rw [delaySum] at *
    rw [List.map_append, List.sum_append]
    omega

theorem within_write (a : Addr) (bytes : List Byte) (w : WriteRes) : Within ⟨1, 0, 0, 0⟩ [.write a bytes w] :=
  ⟨Nat.le_refl _, Nat.le_refl _, Nat.le_refl _, Nat.le_refl _⟩

theorem within_delay (us : Nat) : Within ⟨0, 0, 1, us⟩ [.delay us] :=
  ⟨Nat.le_refl _, Nat.le_refl _, Nat.le_refl _, Nat.le_refl _⟩

theorem within_read (a : Addr) (n : Nat) (r : ReadRes) : Within ⟨0, 1, 0, 0⟩ [.read a n r] :=
  ⟨Nat.le_refl _, Nat.le_refl _, Nat.le_refl _, Nat.le_refl _⟩

/-! ### Polling (R100, R101) -/

/-- What a polling of at most `k` reads that ends in `r` puts on the bus. -/
structure PollEvents (addr : Addr) (n : Nat) (b : Bounds) (r : Res) (es : List Event) : Prop where
  within : Within b es
  last : ∀ bytes, r = .ok bytes → bytes.length = n ∧ ∃ before, es = before ++ [.read addr n (.ok bytes)]

theorem pollEvents_append {addr : Addr} {n : Nat} {b c : Bounds} {r : Res} {es es' : List Event}
    (h : PollEvents addr n b r es') (hw : Within c (es ++ es')) : PollEvents addr n c r (es ++ es') where
  within := hw
  last := fun bytes hr => by
    obtain ⟨hlen, before, hes⟩ := h.last bytes hr
    exact ⟨hlen, es ++ before, by rw [hes, List.append_assoc]⟩

theorem emits_pollTries (addr : Addr) (n k : Nat) (e : Env) : ∃ es, Emits (pseudoPollTries addr n k) e es ∧
    PollEvents addr n ⟨0, k, k, 1000 * k⟩ (pseudoPollTries addr n k e).1 es := by
  induction k generalizing e with
  | zero => exact ⟨[], emits_none _ e, within_nil, fun bytes h => by cases h⟩
  | succ k ih =>
    cases hr : e.bus.readRes n with
    | ok bytes =>
      refine ⟨[.read addr n (.ok bytes)], fun e' hs => ?_, ?_, fun bs h => ?_⟩
      · have hr' := (sameOracle_readRes hs n).trans hr
        rw [pseudoPollTries_answered _ _ _ _ bytes hr, pseudoPollTries_answered _ _ _ _ bytes hr', ← hr']
        exact ⟨rfl, rfl, sameOracle_read hs addr n⟩
      · exact within_append within_nil (within_read addr n (.ok bytes)) (by simp) (by simp) (by simp) (by simp)
      · rw [pseudoPollTries_answered _ _ _ _ bytes hr] at h
        cases h
        exact ⟨bus_readRes_length _ _ _ hr, [], rfl⟩
    | fail =>
      have hread : Emits (fun e => (e.bus.readRes n, (e.read addr n).delay 1000)) e
          [.read addr n .fail, .delay 1000] := by
        intro e' hs
        have hr' := (sameOracle_readRes hs n).trans hr
        refine ⟨sameOracle_readRes hs n, ?_, sameOracle_delay (sameOracle_read hs addr n) 1000⟩
        simp [Env.read, Env.delay, hr']
      obtain ⟨es, hes, hpoll⟩ := ih ((e.read addr n).delay 1000)
      refine ⟨_, emits_seq hread hes fun e' h => pseudoPollTries_failed _ _ _ _ (h.trans hr), ?_⟩
      rw [pseudoPollTries_failed _ _ _ _ hr]
      refine pollEvents_append hpoll ?_
      exact within_append
        (within_append (within_read addr n .fail) (within_delay 1000) (d := ⟨0, 1, 1, 1000⟩) (by simp) (by simp)
          (by simp) (by simp))
        hpoll.within (by simp) (by simp; omega) (by simp; omega) (by simp; omega)

theorem emits_pollRead (addr : Addr) (n typ max : Nat) (e : Env) : ∃ es, Emits (pseudoPollRead addr n typ max) e es ∧
    PollEvents addr n ⟨0, pollAttempts typ max, pollAttempts typ max + 1, typ + 1000 * pollAttempts typ max⟩
      (pseudoPollRead addr n typ max e).1 es := by
  obtain ⟨es, hes, hpoll⟩ := emits_pollTries addr n (pollAttempts typ max) (e.delay typ)
  refine ⟨_, emits_seq (emits_delay typ e) hes fun _ _ => rfl, pollEvents_append hpoll ?_⟩
  exact within_append (within_delay typ) hpoll.within (by simp) (by simp) (by simp; omega) (by simp)

/-! ### An exchange (R120) -/

/-- What an exchange that ends in `r` puts on the bus. -/
structure ExchangeEvents (addr : Addr) (p : Profile) (times : ProfileTimes) (body : List Byte) (r : Res)
    (es : List Event) : Prop where
  within : Within ⟨1, attemptsOf times p, attemptsOf times p + 1, exchangeDelay times p⟩ es
  first : ∃ w tail, es = .write addr (waCommandByte :: withChecksum body) w :: tail ∧ countWrites tail = 0
  last : ∀ payload, r = .ok payload → ∃ before bytes, es = before ++ [.read addr (frameLen p) (.ok bytes)] ∧
    bytes.length = frameLen p ∧ pseudoValidate (frameLen p) bytes = .ok payload

theorem pseudoReceive_eq (addr : Addr) (p : Profile) (times : ProfileTimes) (e : Env) :
    pseudoReceive addr p times e =
      ((pseudoPollRead addr (frameLen p) (times.at p).typ (times.at p).max e).1.bind (pseudoValidate (frameLen p)),
        (pseudoPollRead addr (frameLen p) (times.at p).typ (times.at p).max e).2) := by
  rw [pseudoReceive]
  cases hp : pseudoPollRead addr (frameLen p) (times.at p).typ (times.at p).max e with
  | mk r e' => cases r <;> rfl

theorem emits_request (addr : Addr) (p : Profile) (times : ProfileTimes) (body : List Byte) (e : Env) :
    ∃ es, Emits (pseudoRequest addr p times body) e es ∧
      ExchangeEvents addr p times body (pseudoRequest addr p times body e).1 es := by
  have hwrite := emits_write addr (waCommandByte :: withChecksum body) e
  cases hw : e.bus.writeRes with
  | fail =>
    have hseq := emits_seq hwrite (emits_none (Except.error ErrKind.io : Res) _) fun e' h =>
      pseudoRequest_notSent addr p times body e' (h.trans hw)
    refine ⟨_, hseq, ?_, ⟨_, _, rfl, rfl⟩, fun payload h => ?_⟩
    · exact within_append (within_write _ _ _) within_nil (by simp) (by simp) (by simp) (by simp)
    · rw [pseudoRequest_notSent _ _ _ _ _ hw] at h
      cases h
  | ok =>
    obtain ⟨es, hes, hpoll⟩ := emits_pollRead addr (frameLen p) (times.at p).typ (times.at p).max
      (e.write addr (waCommandByte :: withChecksum body))
    have hreceive := emits_map (fun r => r.bind (pseudoValidate (frameLen p))) hes (pseudoReceive_eq addr p times)
    have hseq := emits_seq hwrite hreceive fun e' h => pseudoRequest_sent addr p times body e' (h.trans hw)
    have hnone : countWrites es = 0 := Nat.le_zero.1 hpoll.within.writes
    refine ⟨_, hseq, ?_, ⟨_, es, rfl, hnone⟩, fun payload h => ?_⟩
    · exact within_append (within_write _ _ _) hpoll.within (by simp) (by simp [attemptsOf]) (by simp [attemptsOf])
        (by simp [exchangeDelay, attemptsOf])
    · rw [pseudoRequest_sent _ _ _ _ _ hw, pseudoReceive_eq] at h
      cases hp : (pseudoPollRead addr (frameLen p) (times.at p).typ (times.at p).max
          (e.write addr (waCommandByte :: withChecksum body))).1 with
      | error k =>
        rw [hp] at h
        cases h
      | ok bytes =>
        rw [hp] at h
        obtain ⟨hlen, before, hbefore⟩ := hpoll.last bytes hp
        exact ⟨_ :: before, bytes, by rw [hbefore]; rfl, hlen, h⟩

end Sys2Proof.Proofs.Emission

/-! The events of the nine host commands: the wake sequence (spec/43_wake_sleep.md R115), the composite commands
(spec/45_operations.md), and the statements about the events of a run. -/

namespace Sys2Proof.Proofs.CommandEvents

open Sys2Proof.Machine Sys2Proof.Laws Sys2Proof.Proofs.Wake Sys2Proof.Proofs.Emission

/-! ### WAKEUP and SLEEP -/

theorem emits_sleep (addr : Addr) (e : Env) : ∃ w, Emits (pseudoSleep addr) e [.write addr [0x01] w] := by
  refine ⟨e.bus.writeRes, fun e' hs => ?_⟩
  obtain ⟨-, htrace, hanswers, hansIdx⟩ := emits_write addr [0x01] e e' hs
  refine ⟨?_, htrace, hanswers, hansIdx⟩
  rw [pseudoSleep, sameOracle_writeRes hs, pseudoSleep]

/-- The three events of one attempt. -/
def verifyEvents (addr : Addr) (w : WriteRes) (r : ReadRes) : List Event :=
  [.write 0x00 [0x00] w, .delay 1500, .read addr 4 r]

theorem emits_verify (addr : Addr) (e : Env) : ∃ w r, Emits (pseudoVerify addr) e (verifyEvents addr w r) ∧
    ((pseudoVerify addr e).1 = true ↔ r = .ok [0x04, 0x11, 0x33, 0x43]) := by
  refine ⟨e.bus.writeRes, ((e.write 0x00 [0x00]).delay 1500).bus.readRes 4, fun e' hs => ?_, ?_⟩
  · have hs' := sameOracle_delay (sameOracle_write hs 0x00 0x00 [0x00] [0x00]) 1500
    have htrace : (((e'.write 0x00 [0x00]).delay 1500).read addr 4).bus.trace =
        e'.bus.trace ++ verifyEvents addr e'.bus.writeRes (((e'.write 0x00 [0x00]).delay 1500).bus.readRes 4) := by
      simp [Env.read, Env.delay, Env.write, verifyEvents]
    rw [pseudoVerify_eq, pseudoVerify_eq, ← sameOracle_writeRes hs, ← sameOracle_readRes hs' 4]
    split
    · obtain ⟨hanswers, hansIdx⟩ := sameOracle_read hs' addr 4
      exact ⟨rfl, htrace, hanswers, hansIdx⟩
    · exact ⟨rfl, htrace, sameOracle_read hs' addr 4⟩
  · rw [pseudoVerify_eq]
    split
    next hr => exact iff_of_true rfl hr
    next hr => exact iff_of_false Bool.false_ne_true hr

/-- `link` after one attempt (R111). -/
theorem pseudoVerify_link (addr : Addr) (e : Env) :
    (pseudoVerify addr e).2.link = if (pseudoVerify addr e).1 then .active else e.link := by
  rw [pseudoVerify_eq]
  split <;> rfl

section

variable {addr : Addr} {e : Env}

theorem pseudoWakeup_first (h : (pseudoVerify addr e).1 = true) :
    pseudoWakeup addr e = (.ok [], (pseudoVerify addr e).2) := by
  cases hv : pseudoVerify addr e with
  | mk b e' =>
    rw [hv] at h
    obtain rfl : b = true := h
    rw [pseudoWakeup, hv]

theorem pseudoWakeup_second (h : (pseudoVerify addr e).1 = false) :
    pseudoWakeup addr e =
      (if (pseudoVerify addr (pseudoSleep addr (pseudoVerify addr e).2).2).1 then .ok [] else .error .deviceUnavailable,
        (pseudoVerify addr (pseudoSleep addr (pseudoVerify addr e).2).2).2) := by
  cases hv : pseudoVerify addr e with
  | mk b e' =>
    rw [hv] at h
    obtain rfl : b = false := h
    rw [pseudoWakeup, hv]
    dsimp only
    cases hv' : pseudoVerify addr (pseudoSleep addr e').2 with
    | mk b' e'' => cases b' <;> rfl

end

/-- What a wake sequence puts on the bus: one attempt that matches, or one that does not, the Sleep byte and
another. -/
inductive WakeEvents (addr : Addr) : Res → Link → List Event → Prop where
  | first (w : WriteRes) : WakeEvents addr (.ok []) .active (verifyEvents addr w (.ok [0x04, 0x11, 0x33, 0x43]))
  | second (w w' w'' : WriteRes) (r : ReadRes) (hr : r ≠ .ok [0x04, 0x11, 0x33, 0x43]) :
    WakeEvents addr (.ok []) .active
      (verifyEvents addr w r ++ [.write addr [0x01] w'] ++ verifyEvents addr w'' (.ok [0x04, 0x11, 0x33, 0x43]))
  | unavailable (w w' w'' : WriteRes) (r r' : ReadRes) (hr : r ≠ .ok [0x04, 0x11, 0x33, 0x43])
    (hr' : r' ≠ .ok [0x04, 0x11, 0x33, 0x43]) :
    WakeEvents addr (.error .deviceUnavailable) .dormant
      (verifyEvents addr w r ++ [.write addr [0x01] w'] ++ verifyEvents addr w'' r')

theorem emits_wakeup (addr : Addr) (e : Env) : ∃ es, Emits (pseudoWakeup addr) e es ∧
    WakeEvents addr (pseudoWakeup addr e).1 (pseudoWakeup addr e).2.link es := by
  obtain ⟨w, r, hfirst, hr⟩ := emits_verify addr e
  have hlink := pseudoVerify_link addr e
  cases hv : (pseudoVerify addr e).1 with
  | true =>
    obtain rfl := hr.1 hv
    refine ⟨verifyEvents addr w (.ok [0x04, 0x11, 0x33, 0x43]), fun e' hs => ?_, ?_⟩
    · obtain ⟨hres, htrace, hs'⟩ := hfirst e' hs
      rw [pseudoWakeup_first hv, pseudoWakeup_first (hres.trans hv)]
      exact ⟨rfl, htrace, hs'⟩
    · rw [hv, if_pos rfl] at hlink
      rw [pseudoWakeup_first hv, hlink]
      exact .first w
  | false =>
    have hne : r ≠ .ok [0x04, 0x11, 0x33, 0x43] := fun h => by simp [hr.2 h] at hv
    obtain ⟨w', hsleep⟩ := emits_sleep addr (pseudoVerify addr e).2
    obtain ⟨w'', r', hsecond, hr'⟩ := emits_verify addr (pseudoSleep addr (pseudoVerify addr e).2).2
    have hlink' := pseudoVerify_link addr (pseudoSleep addr (pseudoVerify addr e).2).2
    have hagain := emits_map
      (fun b => (if b then .ok [] else .error .deviceUnavailable : Res)) hsecond fun _ => rfl
    have hall := emits_seq (emits_then hfirst hsleep) hagain fun e' h => pseudoWakeup_second (h.trans hv)
    refine ⟨_, hall, ?_⟩
    rw [pseudoWakeup_second hv]
    cases hv' : (pseudoVerify addr (pseudoSleep addr (pseudoVerify addr e).2).2).1 with
    | true =>
      obtain rfl := hr'.1 hv'
      rw [hv', if_pos rfl] at hlink'
      rw [hlink']
      exact .second w w' w'' r hne
    | false =>
      have hne' : r' ≠ .ok [0x04, 0x11, 0x33, 0x43] := fun h => by simp [hr'.2 h] at hv'
      rw [hv', if_neg (by simp)] at hlink'
      rw [hlink']
      exact .unavailable w w' w'' r r' hne hne'

/-- Settles O53. -/
theorem wakeupIsBounded : Obligations.WakeupIsBounded := by
  intro s addr hs
  obtain ⟨u, hrun, -, hres, henv⟩ := wakeupFollowsPseudocode s addr hs
  obtain ⟨es, hes, hwake⟩ := emits_wakeup addr s.env
  have htrace : u.bus.trace = s.bus.trace ++ es :=
    (congrArg (fun e => e.bus.trace) henv).trans (trace_of_emits hes)
  have hlink : u.link = (pseudoWakeup addr s.env).2.link := congrArg Env.link henv
  rw [← hlink] at hwake
  refine ⟨u, es, hrun, htrace, ?_⟩
  generalize (pseudoWakeup addr s.env).1 = res at hres hwake
  generalize u.link = link at hwake ⊢
  cases hwake with
  | first w => exact ⟨.inl (by simp [delaySum, verifyEvents]), .inl ⟨w, rfl, hres, rfl⟩⟩
  | second w w' w'' r hr =>
    exact ⟨.inr (by simp [delaySum, verifyEvents]),
      .inr ⟨w, w', w'', r, _, hr, rfl, fun _ => ⟨hres, rfl⟩, fun h => absurd rfl h⟩⟩
  | unavailable w w' w'' r r' hr hr' =>
    exact ⟨.inr (by simp [delaySum, verifyEvents]),
      .inr ⟨w, w', w'', r, r', hr, rfl, fun h => absurd h hr', fun _ => ⟨hres, rfl⟩⟩⟩

end Sys2Proof.Proofs.CommandEvents

/-! The statements about the events of whole commands: the clean-up Sleep (spec/45_operations.md R130), the Sign frame
(R134), the bounds and the independence of earlier commands (spec/70_reset_and_hazards.md R199, R182). -/

namespace Sys2Proof.Proofs.CommandBounds

open Sys2Proof.Machine Sys2Proof.Laws Sys2Proof.Proofs.Request Sys2Proof.Proofs.Exchange Sys2Proof.Proofs.Composite
  Sys2Proof.Proofs.Emission Sys2Proof.Proofs.CommandEvents

/-! ### Sign frames among events -/

/-- No event writes a Sign frame. -/
def NoSign (es : List Event) : Prop := ∀ w ∈ es, isSignWrite w = false

theorem noSign_nil : NoSign [] := fun w h => by cases h

theorem noSign_append {es es' : List Event} (h : NoSign es) (h' : NoSign es') : NoSign (es ++ es') :=
  fun w hw => (List.mem_append.1 hw).elim (h w) (h' w)

theorem noSign_cons {w : Event} {es : List Event} (h : isSignWrite w = false) (h' : NoSign es) : NoSign (w :: es) :=
  List.forall_mem_cons.2 ⟨h, h'⟩

theorem noSign_of_countWrites {es : List Event} (h : countWrites es = 0) : NoSign es := by
  intro w hw
  have hcount := List.countP_eq_zero.1 h w hw
  cases w with
  | write a bytes r => exact absurd rfl hcount
  | read a n r => rfl
  | delay us => rfl

/-- The read of a good Nonce response: status 0 with its checksum. -/
def goodNonce (addr : Addr) : Event := .read addr 4 (.ok [0x04, 0x00, 0x03, 0x40])

/-- A Sign frame, if one is written, is written straight after the read of a good Nonce response, and no other is. -/
def SignGuarded (addr : Addr) (es : List Event) : Prop :=
  NoSign es ∨ ∃ before w after, es = before ++ goodNonce addr :: w :: after ∧ NoSign before ∧ NoSign after

theorem signGuarded_surround {addr : Addr} {es pre post : List Event} (h : SignGuarded addr es) (hpre : NoSign pre)
    (hpost : NoSign post) : SignGuarded addr (pre ++ es ++ post) := by
  rcases h with h | ⟨before, w, after, rfl, hb, ha⟩
  · exact .inl (noSign_append (noSign_append hpre h) hpost)
  · exact .inr ⟨pre ++ before, w, after ++ post, by simp, noSign_append hpre hb, noSign_append ha hpost⟩

/-- One list taken apart in two ways. -/
theorem mem_left_or_right {α : Type} {l r before after : List α} {x w : α} (h : l ++ x :: r = before ++ w :: after) :
    w ∈ l ∨ before = l ∨ w ∈ r := by
  rcases List.append_eq_append_iff.1 h with ⟨m, hbefore, hr⟩ | ⟨m, hl, hafter⟩
  · cases m with
    | nil => exact .inr (.inl (by simpa using hbefore))
    | cons y m =>
      obtain ⟨-, hr⟩ := List.cons.inj hr
      exact .inr (.inr (by simp [hr]))
  · cases m with
    | nil => exact .inr (.inl (by simpa using hl.symm))
    | cons y m =>
      obtain ⟨rfl, -⟩ := List.cons.inj hafter
      exact .inl (by simp [hl])

theorem goodNonce_before {addr : Addr} {es before after : List Event} {w : Event} (h : SignGuarded addr es)
    (hes : es = before ++ w :: after) (hw : isSignWrite w = true) :
    ∃ before', before = before' ++ [goodNonce addr] := by
  have hno : ∀ l, NoSign l → w ∉ l := fun l hl hmem => by simp [hl w hmem] at hw
  rcases h with h | ⟨pre, x, post, hx, hpre, hpost⟩
  · exact absurd (by simp [hes]) (hno es h)
  · have hsplit : (pre ++ [goodNonce addr]) ++ x :: post = before ++ w :: after := by
      rw [← hes, hx, List.append_assoc]
      rfl
    rcases mem_left_or_right hsplit with hl | hb | hr
    · exact absurd hl (hno _ (noSign_append hpre (noSign_cons rfl noSign_nil)))
    · exact ⟨pre, hb⟩
    · exact absurd hr (hno post hpost)

/-! ### The bracket of the composite commands (R130) -/

theorem within_verifyEvents (addr : Addr) (w : WriteRes) (r : ReadRes) :
    Within ⟨1, 1, 1, 1500⟩ (verifyEvents addr w r) :=
  within_append (within_write 0x00 [0x00] w)
    (within_append (within_delay 1500) (within_read addr 4 r) (d := ⟨0, 1, 1, 1500⟩) (by simp) (by simp) (by simp)
      (by simp))
    (by simp) (by simp) (by simp) (by simp)

theorem within_twoAttempts (addr : Addr) (w w' w'' : WriteRes) (r r' : ReadRes) : Within ⟨3, 2, 2, 3000⟩
    (verifyEvents addr w r ++ [.write addr [0x01] w'] ++ verifyEvents addr w'' r') :=
  within_append
    (within_append (within_verifyEvents addr w r) (within_write addr [0x01] w') (d := ⟨2, 1, 1, 1500⟩) (by simp)
      (by simp) (by simp) (by simp))
    (within_verifyEvents addr w'' r') (by simp) (by simp) (by simp) (by simp)

theorem wakeEvents_within {addr : Addr} {r : Res} {l : Link} {es : List Event} (h : WakeEvents addr r l es) :
    Within ⟨3, 2, 2, 3000⟩ es := by
  cases h with
  | first w => exact within_mono (within_verifyEvents _ _ _) (by simp) (by simp) (by simp) (by simp)
  | second w w' w'' r hr => exact within_twoAttempts _ _ _ _ _ _
  | unavailable w w' w'' r r' hr hr' => exact within_twoAttempts _ _ _ _ _ _

theorem noSign_verifyEvents (addr : Addr) (w : WriteRes) (r : ReadRes) : NoSign (verifyEvents addr w r) :=
  noSign_cons rfl (noSign_cons rfl (noSign_cons rfl noSign_nil))

theorem noSign_sleep (addr : Addr) (w : WriteRes) : NoSign [.write addr [0x01] w] := noSign_cons rfl noSign_nil

theorem wakeEvents_noSign {addr : Addr} {r : Res} {l : Link} {es : List Event} (h : WakeEvents addr r l es) :
    NoSign es := by
  cases h with
  | first w => exact noSign_verifyEvents _ _ _
  | second w w' w'' r hr =>
    exact noSign_append (noSign_append (noSign_verifyEvents _ _ _) (noSign_sleep _ _)) (noSign_verifyEvents _ _ _)
  | unavailable w w' w'' r r' hr hr' =>
    exact noSign_append (noSign_append (noSign_verifyEvents _ _ _) (noSign_sleep _ _)) (noSign_verifyEvents _ _ _)

theorem pseudoBracket_failed {addr : Addr} {exchanges : Env → Res × Env} {e : Env} {k : ErrKind}
    (h : (pseudoWakeup addr e).1 = .error k) :
    pseudoBracket addr exchanges e = (.error k, (pseudoSleep addr (pseudoWakeup addr e).2).2) := by
  cases hw : pseudoWakeup addr e with
  | mk r e' =>
    rw [hw] at h
    obtain rfl : r = .error k := h
    rw [pseudoBracket, hw]

theorem pseudoBracket_woken {addr : Addr} {exchanges : Env → Res × Env} {e : Env} {bytes : List Byte}
    (h : (pseudoWakeup addr e).1 = .ok bytes) :
    pseudoBracket addr exchanges e = ((exchanges (pseudoWakeup addr e).2).1,
      (pseudoSleep addr (exchanges (pseudoWakeup addr e).2).2).2) := by
  cases hw : pseudoWakeup addr e with
  | mk r e' =>
    rw [hw] at h
    obtain rfl : r = .ok bytes := h
    rw [pseudoBracket, hw]

/-- A composite command: the wake sequence, what its exchanges put on the bus, and the Sleep write. -/
theorem emits_bracket (addr : Addr) (exchanges : Env → Res × Env) (Q : List Event → Prop) (hnil : Q [])
    (hx : ∀ e, ∃ es, Emits exchanges e es ∧ Q es) (e : Env) :
    ∃ wake es w, Emits (pseudoBracket addr exchanges) e (wake ++ es ++ [.write addr [0x01] w]) ∧
      Within ⟨3, 2, 2, 3000⟩ wake ∧ NoSign wake ∧ Q es := by
  obtain ⟨wake, hemits, hwake⟩ := emits_wakeup addr e
  have hwithin := wakeEvents_within hwake
  have hnosign := wakeEvents_noSign hwake
  cases hr : (pseudoWakeup addr e).1 with
  | error k =>
    obtain ⟨w, hsleep⟩ := emits_sleep addr (pseudoWakeup addr e).2
    refine ⟨wake, [], w, ?_, hwithin, hnosign, hnil⟩
    rw [List.append_nil]
    exact emits_seq hemits (emits_map (fun _ => (.error k : Res)) hsleep fun _ => rfl) fun e' h =>
      pseudoBracket_failed (h.trans hr)
  | ok bytes =>
    obtain ⟨es, hes, hQ⟩ := hx (pseudoWakeup addr e).2
    obtain ⟨w, hsleep⟩ := emits_sleep addr (exchanges (pseudoWakeup addr e).2).2
    refine ⟨wake, es, w, ?_, hwithin, hnosign, hQ⟩
    rw [List.append_assoc]
    exact emits_seq hemits (emits_then hes hsleep) fun e' h => pseudoBracket_woken (h.trans hr)

theorem pseudoBracket_link (addr : Addr) (exchanges : Env → Res × Env) (e : Env) :
    (pseudoBracket addr exchanges e).2.link = .dormant := by
  cases hr : (pseudoWakeup addr e).1 with
  | error k => rw [pseudoBracket_failed hr]; rfl
  | ok bytes => rw [pseudoBracket_woken hr]; rfl

/-- The bounds of a composite command whose exchanges are within `b`. -/
theorem within_bracket {addr : Addr} {wake es : List Event} {w : WriteRes} {b : Bounds}
    (hwake : Within ⟨3, 2, 2, 3000⟩ wake) (h : Within b es) :
    Within ⟨4 + b.writes, 2 + b.reads, 2 + b.delays, 3000 + b.delaySum⟩ (wake ++ es ++ [.write addr [0x01] w]) :=
  within_append (within_append hwake h (d := ⟨3 + b.writes, 2 + b.reads, 2 + b.delays, 3000 + b.delaySum⟩)
    (by simp) (by simp) (by simp) (by simp)) (within_write addr [0x01] w) (by simp +arith) (by simp) (by simp) (by simp)

/-! ### The exchanges of the composite commands -/

theorem emits_oneRequest (addr : Addr) (p : Profile) (times : ProfileTimes) (body : List Byte) (e : Env) :
    ∃ es, Emits (pseudoRequest addr p times body) e es ∧
      Within ⟨1, attemptsOf times p, attemptsOf times p + 1, exchangeDelay times p⟩ es := by
  obtain ⟨es, hes, hx⟩ := emits_request addr p times body e
  exact ⟨es, hes, hx.within⟩

theorem emits_readSerialExchanges (addr : Addr) (times : ProfileTimes) (e : Env) :
    ∃ es, Emits (pseudoReadSerialExchanges addr times) e es ∧
      Within ⟨2, 2 * attemptsOf times .read32, 2 * (attemptsOf times .read32 + 1), 2 * exchangeDelay times .read32⟩
        es := by
  obtain ⟨es, hes, hwithin⟩ := emits_oneRequest addr .read32 times [0x07, 0x02, 0x80, 0x00, 0x00] e
  cases hr : (pseudoRequest addr .read32 times [0x07, 0x02, 0x80, 0x00, 0x00] e).1 with
  | ok B =>
    refine ⟨es, ?_, within_mono hwithin (by simp) (by simp +arith) (by simp +arith) (by simp +arith)⟩
    rw [← List.append_nil es]
    exact emits_seq hes (emits_none (Except.ok (serialOf B) : Res) _) fun e' h =>
      pseudoReadSerialExchanges_first addr times e' _ B (Prod.ext (h.trans hr) rfl)
  | error k =>
    obtain ⟨es', hes', hwithin'⟩ := emits_oneRequest addr .read32 times [0x07, 0x02, 0x80, 0x00, 0x00]
      (pseudoRequest addr .read32 times [0x07, 0x02, 0x80, 0x00, 0x00] e).2
    have hagain := emits_map (fun r => r.map serialOf) hes' fun _ => rfl
    exact ⟨es ++ es', emits_seq hes hagain fun e' h =>
        pseudoReadSerialExchanges_second addr times e' _ k (Prod.ext (h.trans hr) rfl),
      within_append hwithin hwithin' (by simp) (by simp; omega) (by simp; omega) (by simp; omega)⟩

section

variable {addr : Addr} {slot : Byte} {data : Vector Byte 32} {times : ProfileTimes} {e : Env}

theorem pseudoSignExchanges_failed {k : ErrKind}
    (h : (pseudoRequest addr .nonce times ([0x27, 0x16, 0x03, 0x00, 0x00] ++ data.toList) e).1 = .error k) :
    pseudoSignExchanges addr slot data times e =
      (.error k, (pseudoRequest addr .nonce times ([0x27, 0x16, 0x03, 0x00, 0x00] ++ data.toList) e).2) := by
  cases hr : pseudoRequest addr .nonce times ([0x27, 0x16, 0x03, 0x00, 0x00] ++ data.toList) e with
  | mk r e' =>
    rw [hr] at h
    obtain rfl : r = .error k := h
    rw [pseudoSignExchanges, hr]

theorem pseudoSignExchanges_answered {status : List Byte}
    (h : (pseudoRequest addr .nonce times ([0x27, 0x16, 0x03, 0x00, 0x00] ++ data.toList) e).1 = .ok status) :
    pseudoSignExchanges addr slot data times e =
      if status.headD 0 = 0x00 then pseudoRequest addr .sign times [0x07, 0x41, 0x80, slot, 0x00]
        (pseudoRequest addr .nonce times ([0x27, 0x16, 0x03, 0x00, 0x00] ++ data.toList) e).2
      else (.error .protocol,
        (pseudoRequest addr .nonce times ([0x27, 0x16, 0x03, 0x00, 0x00] ++ data.toList) e).2) := by
  cases hr : pseudoRequest addr .nonce times ([0x27, 0x16, 0x03, 0x00, 0x00] ++ data.toList) e with
  | mk r e' =>
    rw [hr] at h
    obtain rfl : r = .ok status := h
    rw [pseudoSignExchanges, hr]

end

/-- Only `04 00 03 40` is a Nonce response of status 0 (spec/95_test_vectors.md S6). -/
theorem goodNonce_of_validate {bytes status : List Byte} (hlen : bytes.length = frameLen .nonce)
    (h : pseudoValidate (frameLen .nonce) bytes = .ok status) (hstatus : status.headD 0 = 0x00) :
    bytes = [0x04, 0x00, 0x03, 0x40] := by
  have hcount : (bytes.headD 0).toNat = frameLen .nonce := by
    by_contra hne
    rw [pseudoValidate, if_pos hne] at h
    cases h
  obtain ⟨payload, crc, hp, rfl⟩ := exists_eq_responseFrame .nonce bytes hlen hcount
  rw [pseudoValidate_responseFrame .nonce payload crc hp] at h
  split at h
  next hcrc =>
    cases h
    obtain ⟨b, rfl⟩ := List.length_eq_one_iff.1 hp
    obtain rfl : b = 0x00 := hstatus
    rw [← hcrc]
    decide
  next => cases h

/-- The exchanges of SIGN (R134). -/
theorem emits_signExchanges (addr : Addr) (slot : Byte) (data : Vector Byte 32) (times : ProfileTimes) (e : Env) :
    ∃ es, Emits (pseudoSignExchanges addr slot data times) e es ∧
      Within ⟨2, attemptsOf times .nonce + attemptsOf times .sign,
        (attemptsOf times .nonce + 1) + (attemptsOf times .sign + 1),
        exchangeDelay times .nonce + exchangeDelay times .sign⟩ es ∧ SignGuarded addr es := by
  obtain ⟨es, hes, hx⟩ := emits_request addr .nonce times ([0x27, 0x16, 0x03, 0x00, 0x00] ++ data.toList) e
  obtain ⟨w, tail, hfirst, htail⟩ := hx.first
  have hno : NoSign es := by
    rw [hfirst]
    exact noSign_cons rfl (noSign_of_countWrites htail)
  have honly := within_mono hx.within
    (c := ⟨2, attemptsOf times .nonce + attemptsOf times .sign,
      (attemptsOf times .nonce + 1) + (attemptsOf times .sign + 1),
      exchangeDelay times .nonce + exchangeDelay times .sign⟩) (by simp) (by simp) (by simp) (by simp)
  cases hr : (pseudoRequest addr .nonce times ([0x27, 0x16, 0x03, 0x00, 0x00] ++ data.toList) e).1 with
  | error k =>
    refine ⟨es, ?_, honly, .inl hno⟩
    rw [← List.append_nil es]
    exact emits_seq hes (emits_none (Except.error k : Res) _) fun e' h => pseudoSignExchanges_failed (h.trans hr)
  | ok status =>
    by_cases hstatus : status.headD 0 = 0x00
    · obtain ⟨before, bytes, hbefore, hlen, hvalid⟩ := hx.last status hr
      obtain rfl := goodNonce_of_validate hlen hvalid hstatus
      obtain ⟨es', hes', hx'⟩ := emits_request addr .sign times [0x07, 0x41, 0x80, slot, 0x00]
        (pseudoRequest addr .nonce times ([0x27, 0x16, 0x03, 0x00, 0x00] ++ data.toList) e).2
      obtain ⟨w', tail', hfirst', htail'⟩ := hx'.first
      refine ⟨es ++ es', emits_seq hes hes' fun e' h => ?_,
        within_append hx.within hx'.within (by simp) (by simp) (by simp) (by simp),
        .inr ⟨before, .write addr (waCommandByte :: withChecksum [0x07, 0x41, 0x80, slot, 0x00]) w', tail',
          ?_, ?_, noSign_of_countWrites htail'⟩⟩
      · rw [pseudoSignExchanges_answered (h.trans hr), if_pos hstatus]
      · rw [hbefore, hfirst', List.append_assoc]
        rfl
      · exact fun x hmem => hno x (by rw [hbefore]; exact List.mem_append_left _ hmem)
    · refine ⟨es, ?_, honly, .inl hno⟩
      rw [← List.append_nil es]
      refine emits_seq hes (emits_none (Except.error .protocol : Res) _) fun e' h => ?_
      rw [pseudoSignExchanges_answered (h.trans hr), if_neg hstatus]

end Sys2Proof.Proofs.CommandBounds

/-! The runs of the host commands and what they put on the bus, for all nine at once. -/

namespace Sys2Proof.Proofs.AllCommands

open Sys2Proof.Machine Sys2Proof.Laws Sys2Proof.Proofs.Accept Sys2Proof.Proofs.Runs Sys2Proof.Proofs.Poll
  Sys2Proof.Proofs.Exchange Sys2Proof.Proofs.Wake Sys2Proof.Proofs.Composite Sys2Proof.Proofs.Emission
  Sys2Proof.Proofs.CommandEvents Sys2Proof.Proofs.CommandBounds

/-- A composite command that passes its argument check is a bracket of exchanges within the rest of its bounds. -/
theorem bracket_of_waking {i : Instr} {addr : Addr} (times : ProfileTimes) (h : wakingAddr i = some addr) :
    ∃ exchanges b, (∀ e, pseudoCommand i times e = some (pseudoBracket addr exchanges e)) ∧
      (∀ e, ∃ es, Emits exchanges e es ∧ Within b es) ∧
      boundsOf times i = ⟨4 + b.writes, 2 + b.reads, 2 + b.delays, 3000 + b.delaySum⟩ := by
  cases i with
  | readZone a zone slot block offset rlen =>
    rw [wakingAddr] at h
    split at h
    next hfits =>
      cases h
      refine ⟨_, _, fun e => congrArg some (pseudoReadZone_eq _ _ _ _ _ _ times e hfits),
        emits_oneRequest addr (zoneProfile rlen) times _, ?_⟩
      simp only [boundsOf, Bounds.mk.injEq, true_and, and_true]
      omega
    next => cases h
  | readSerial a =>
    cases h
    refine ⟨_, _, fun _ => rfl, emits_readSerialExchanges addr times, ?_⟩
    simp only [boundsOf]
  | derivePublicKey a slot =>
    cases h
    refine ⟨_, _, fun _ => rfl, emits_oneRequest addr .genKey times _, ?_⟩
    simp only [boundsOf, Bounds.mk.injEq, true_and, and_true]
    omega
  | signCmd a slot data =>
    cases h
    have hx : ∀ e, ∃ es, Emits (pseudoSignExchanges addr slot data times) e es ∧ Within _ es := fun e =>
      (emits_signExchanges addr slot data times e).imp fun es h => ⟨h.1, h.2.1⟩
    refine ⟨_, _, fun _ => rfl, hx, ?_⟩
    simp only [boundsOf, Bounds.mk.injEq, true_and]
    omega
  | _ => cases h

/-- A host command has one result and one list of events for the answers to come, within its row of R199. -/
theorem emits_command {i : Instr} {times : ProfileTimes} {e : Env} {p : Res × Env}
    (h : pseudoCommand i times e = some p) :
    ∃ f es, (∀ e', pseudoCommand i times e' = some (f e')) ∧ Emits f e es ∧ Within (boundsOf times i) es := by
  cases hwake : wakingAddr i with
  | some addr =>
    obtain ⟨exchanges, b, hpseudo, hx, hbounds⟩ := bracket_of_waking times hwake
    have hnil : Within b [] := ⟨Nat.zero_le _, Nat.zero_le _, Nat.zero_le _, Nat.zero_le _⟩
    obtain ⟨wake, es, w, hes, hwakes, -, hwithin⟩ := emits_bracket addr exchanges (Within b) hnil hx e
    exact ⟨_, _, hpseudo, hes, hbounds ▸ within_bracket hwakes hwithin⟩
  | none =>
    cases i with
    | checksum F =>
      obtain ⟨N, hN, -⟩ := Option.map_eq_some_iff.1 h
      refine ⟨_, _, fun e' => ?_, emits_none (.ok (halfBytes (crc16 (F.take N))) : Res) e, within_nil⟩
      rw [pseudoCommand, hN]
      rfl
    | pollRead addr n typ max =>
      rw [pseudoCommand] at h
      split at h
      next hfits =>
        obtain ⟨es, hes, hpoll⟩ := emits_pollRead addr n.toNat typ max e
        exact ⟨_, es, fun e' => if_pos hfits, hes, hpoll.within⟩
      next => cases h
    | wakeup addr =>
      obtain ⟨es, hes, hwakes⟩ := emits_wakeup addr e
      exact ⟨_, es, fun _ => rfl, hes, wakeEvents_within hwakes⟩
    | sleep addr =>
      obtain ⟨w, hes⟩ := emits_sleep addr e
      exact ⟨_, _, fun _ => rfl, hes, within_write addr [0x01] w⟩
    | request addr p F =>
      rw [pseudoCommand] at h
      split at h
      next hfits =>
        obtain ⟨es, hes, hwithin⟩ := emits_oneRequest addr p times (requestBody F) e
        exact ⟨_, es, fun e' => if_pos hfits, hes, hwithin⟩
      next => cases h
    | readZone addr zone slot block offset rlen =>
      have hbad : rlen ≠ 4 ∧ rlen ≠ 32 := by
        rw [wakingAddr] at hwake
        split at hwake
        next => cases hwake
        next hfits => exact not_or.1 (mt (rlenFits_iff rlen).2 hfits)
      refine ⟨_, _, fun e' => congrArg some (if_pos hbad), emits_none _ e, ?_⟩
      exact ⟨Nat.zero_le _, Nat.zero_le _, Nat.zero_le _, Nat.zero_le _⟩
    | readSerial addr => cases hwake
    | derivePublicKey addr slot => cases hwake
    | signCmd addr slot data => cases hwake
    | _ => cases h

/-- Every host command that R66 accepts runs to its end as its pseudocode says. -/
theorem command_run {i : Instr} {s : State} {p : Res × Env} (hs : s.seq = .idle)
    (h : pseudoCommand i s.times s.env = some p) : ∃ u, Runs i s u ∧ u.result = resultOf p.1 ∧ u.env = p.2 := by
  cases i with
  | checksum F =>
    obtain ⟨N, hN, hp⟩ := Option.map_eq_some_iff.1 h
    obtain ⟨count, rest, rfl, hcount, hlen⟩ := (coveredLen_eq_some F N).1 hN
    obtain ⟨u, hrun, -, hres, -, -, henv⟩ :=
      checksumFollowsPseudocode s count rest hs (by omega) (by omega)
    have hN' : count.toNat - 2 = N := by omega
    cases hp
    rw [hN'] at hres
    exact ⟨u, hrun, hres, henv⟩
  | pollRead addr n typ max =>
    obtain ⟨hfits, hp⟩ := Option.ite_none_right_eq_some.1 h
    cases hp
    obtain ⟨h1, h67⟩ := (pollFits_iff n).1 hfits
    obtain ⟨u, hrun, -, hres, henv, -⟩ := pollRead_run s addr n typ max hs h1 h67
    exact ⟨u, hrun, hres, henv⟩
  | wakeup addr =>
    cases h
    obtain ⟨u, hrun, -, hend⟩ := wakeupFollowsPseudocode s addr hs
    exact ⟨u, hrun, hend⟩
  | sleep addr =>
    cases h
    obtain ⟨u, hrun, -, hend⟩ := sleepFollowsPseudocode s addr hs
    exact ⟨u, hrun, hend⟩
  | request addr p F =>
    obtain ⟨hfits, hp⟩ := Option.ite_none_right_eq_some.1 h
    cases hp
    obtain ⟨u, hrun, -, hend⟩ := request_run s addr p F hs hfits
    exact ⟨u, hrun, hend⟩
  | readZone addr zone slot block offset rlen =>
    cases h
    obtain ⟨u, hrun, -, hend⟩ := readZoneFollowsPseudocode s addr zone slot block offset rlen hs
    exact ⟨u, hrun, hend⟩
  | readSerial addr =>
    cases h
    obtain ⟨u, hrun, -, hend⟩ := readSerialFollowsPseudocode s addr hs
    exact ⟨u, hrun, hend⟩
  | derivePublicKey addr slot =>
    cases h
    obtain ⟨u, hrun, -, hend⟩ := derivePublicKeyFollowsPseudocode s addr slot hs
    exact ⟨u, hrun, hend⟩
  | signCmd addr slot data =>
    cases h
    obtain ⟨u, hrun, -, hend⟩ := signFollowsPseudocode s addr slot data hs
    exact ⟨u, hrun, hend⟩
  | _ => cases h

/-! ### Which commands are accepted -/

theorem pseudoCommand_of_wellFormed {i : Instr} (times : ProfileTimes) (e : Env) (hi : isHostCommand i = true)
    (h : WellFormed i = true) : ∃ p, pseudoCommand i times e = some p := by
  cases i with
  | checksum F =>
    obtain ⟨N, hN⟩ := Option.isSome_iff_exists.1 h
    exact ⟨_, by rw [pseudoCommand, hN]; rfl⟩
  | pollRead addr n typ max => exact ⟨_, if_pos h⟩
  | request addr p F => exact ⟨_, if_pos h⟩
  | wakeup addr => exact ⟨_, rfl⟩
  | sleep addr => exact ⟨_, rfl⟩
  | readZone addr zone slot block offset rlen => exact ⟨_, rfl⟩
  | readSerial addr => exact ⟨_, rfl⟩
  | derivePublicKey addr slot => exact ⟨_, rfl⟩
  | signCmd addr slot data => exact ⟨_, rfl⟩
  | _ => cases hi

/-- A command that is accepted is well formed (R66). -/
theorem wellFormed_of_exec {i : Instr} {s t : State} (hs : s.seq = .idle) (hi : isHostCommand i = true)
    (h : exec i s = .next t) : WellFormed i = true := by
  cases i with
  | checksum F =>
    rw [exec_checksum_idle s hs] at h
    exact (Moves.next_of_ite_next h).1
  | pollRead addr n typ max =>
    rw [exec_pollRead_idle s hs] at h
    exact (Moves.next_of_ite_next h).1
  | request addr p F =>
    rw [exec_request_idle s hs] at h
    exact (Moves.next_of_ite_next h).1
  | wakeup addr => rfl
  | sleep addr => rfl
  | readZone addr zone slot block offset rlen => rfl
  | readSerial addr => rfl
  | derivePublicKey addr slot => rfl
  | signCmd addr slot data => rfl
  | _ => cases hi

/-! ### The statements -/

theorem trace_of_env {u : State} {e : Env} (h : u.env = e) : u.bus.trace = e.bus.trace :=
  congrArg (fun e => e.bus.trace) h

/-- Settles O59. -/
theorem everyCommandEndsWithinBounds : Obligations.EveryCommandEndsWithinBounds := by
  intro i s hs hi hwf
  obtain ⟨p, hp⟩ := pseudoCommand_of_wellFormed s.times s.env hi hwf
  obtain ⟨f, es, hf, hes, hwithin⟩ := emits_command hp
  obtain ⟨u, hrun, -, henv⟩ := command_run hs (hf s.env)
  exact ⟨u, es, hrun, (trace_of_env henv).trans (trace_of_emits hes), hwithin.writes, hwithin.reads, hwithin.delays,
    hwithin.sum⟩

/-- Settles O60. -/
theorem commandsKeepNothingFromEarlierOnes : Obligations.CommandsKeepNothingFromEarlierOnes := by
  intro i s s' u u' hs hs' hi htimes hanswers hansIdx hrun hrun'
  obtain ⟨t, k, hexec, hk⟩ := hrun
  obtain ⟨p, hp⟩ := pseudoCommand_of_wellFormed s.times s.env hi (wellFormed_of_exec hs hi hexec)
  obtain ⟨f, es, hf, hes, -⟩ := emits_command hp
  obtain ⟨hres, htrace, -⟩ := hes s'.env ⟨hanswers, hansIdx⟩
  obtain ⟨v, hv, hvres, hvenv⟩ := command_run hs (hf s.env)
  obtain ⟨v', hv', hvres', hvenv'⟩ := command_run hs' (htimes ▸ hf s'.env)
  obtain rfl := runs_unique ⟨t, k, hexec, hk⟩ hv
  obtain rfl := runs_unique hrun' hv'
  refine ⟨by rw [hvres, hvres', hres], es, ?_, ?_⟩
  · exact (trace_of_env hvenv).trans (trace_of_emits hes)
  · exact (trace_of_env hvenv').trans htrace

/-- Settles O57. -/
theorem compositeCommandsEndWithSleep : Obligations.CompositeCommandsEndWithSleep := by
  intro i s addr hs hi
  obtain ⟨exchanges, b, hpseudo, hx, -⟩ := bracket_of_waking s.times hi
  obtain ⟨wake, es, w, hes, -⟩ := emits_bracket addr exchanges (fun _ => True) trivial
    (fun e => (hx e).imp fun es h => ⟨h.1, trivial⟩) s.env
  obtain ⟨u, hrun, -, henv⟩ := command_run hs (hpseudo s.env)
  refine ⟨u, wake ++ es, w, hrun, ?_, (congrArg Env.link henv).trans (pseudoBracket_link addr exchanges s.env)⟩
  rw [List.append_assoc]
  exact (trace_of_env henv).trans (trace_of_emits hes)

/-- Settles O58. -/
theorem signFrameFollowsOnlyAGoodNonce : Obligations.SignFrameFollowsOnlyAGoodNonce := by
  intro s u addr slot data before after w hs hrun htrace hw
  obtain ⟨v, hv, -, -, henv⟩ := signFollowsPseudocode s addr slot data hs
  obtain rfl := runs_unique hrun hv
  obtain ⟨wake, es, r, hes, -, hno, hguard⟩ := emits_bracket addr (pseudoSignExchanges addr slot data s.times)
    (SignGuarded addr) (.inl noSign_nil)
    (fun e => (emits_signExchanges addr slot data s.times e).imp fun es h => ⟨h.1, h.2.2⟩) s.env
  have hall := signGuarded_surround hguard hno (noSign_sleep addr r)
  refine goodNonce_before (after := after) hall ?_ hw
  have heq := (trace_of_env henv).trans (trace_of_emits hes)
  rw [htrace, List.append_assoc] at heq
  exact (List.append_cancel_left heq).symm

end Sys2Proof.Proofs.AllCommands

/-! Placing an instruction where the next step fetches it (log 14): the port of each row holds the row's encoding. -/

namespace Sys2Proof.Proofs.Placing

open Sys2Proof.Machine Sys2Proof.Laws Sys2Proof.Proofs.Encoding Sys2Proof.Proofs.Accept Sys2Proof.Proofs.Poll

/-! ### Operands that give a Zone Address (R57) -/

theorem toNat_loByte (h : Half) : (loByte h).toNat = h.toNat % 256 := by
  rw [loByte, BitVec.extractLsb'_toNat]
  rfl

theorem toNat_hiByte (h : Half) : (hiByte h).toNat = h.toNat / 256 := by
  have hlt := h.isLt
  rw [hiByte, BitVec.extractLsb'_toNat, Nat.shiftRight_eq_div_pow]
  omega

/-- The block and the offset of an address up to 2047 (config and OTP). -/
theorem blockAddress_inverse (za : Half) (h : za.toNat ≤ 2047) :
    BitVec.ofNat 16 (((za.extractLsb' 3 8).toNat <<< 3) + (loByte za &&& 7 &&& 7).toNat) = za := by
  apply BitVec.eq_of_toNat_eq
  rw [BitVec.toNat_ofNat, toNat_and_seven, toNat_and_seven, toNat_loByte, BitVec.extractLsb'_toNat, Nat.shiftLeft_eq,
    Nat.shiftRight_eq_div_pow]
  omega

/-- The block, the slot and the offset of any address (data). -/
theorem slotAddress_inverse (za : Half) : BitVec.ofNat 16
    (((hiByte za).toNat <<< 8) + ((loByte za >>> 3).toNat <<< 3) + (loByte za &&& 7 &&& 7).toNat) = za := by
  have hlt := za.isLt
  apply BitVec.eq_of_toNat_eq
  rw [BitVec.toNat_ofNat, toNat_and_seven, toNat_and_seven, BitVec.toNat_ushiftRight, toNat_loByte, toNat_hiByte,
    Nat.shiftLeft_eq, Nat.shiftLeft_eq, Nat.shiftRight_eq_div_pow]
  omega

theorem zoneAddress_withZoneAddress (s : State) (zone : Zone) (za : Half) (h : zoneAddressFits zone za = true) :
    zoneAddress zone (s.withZoneAddress zone za).slot (s.withZoneAddress zone za).block
      (s.withZoneAddress zone za).offset = za := by
  cases zone with
  | data => exact slotAddress_inverse za
  | config => exact blockAddress_inverse za (of_decide_eq_true h)
  | otp => exact blockAddress_inverse za (of_decide_eq_true h)

theorem withZoneAddress_zone (s : State) (zone : Zone) (za : Half) : (s.withZoneAddress zone za).zone = zone := by
  cases zone <;> rfl

/-! ### The ports -/

theorem packetAt_bBuild (s : State) (i : Instr) (hseq : s.seq = .bBuild) (h : s.builtFrame = some i) :
    s.packetAt = some (encode i, s) := by
  simp [State.packetAt, State.builtPacket, hseq, h]

theorem builtFrame_withZoneAddress (s : State) (zone : Zone) (za : Half) (rlen : Byte)
    (h : zoneAddressFits zone za = true) :
    ({ (s.withZoneAddress zone za).running .readZone .bBuild with rlen := rlen } : State).builtFrame =
      if rlen = 32 then some (.read32 zone za) else some (.read4 zone za) := by
  have hza := zoneAddress_withZoneAddress s zone za h
  have hzone := withZoneAddress_zone s zone za
  simp [State.builtFrame, State.running, hza, hzone]

/-- A response in `rbuf` at `V_CRC` (R52). -/
theorem packetAt_withResponse (s : State) (p : Profile) (payload : List Byte) (crc : Half)
    (h : payload.length = respLen p) : (s.withResponse p (responseFrame payload crc)).packetAt =
      some (.response p (responseFrame payload crc), s.withResponse p (responseFrame payload crc)) := by
  have hlen : (responseFrame payload crc).length = frameLen p := by
    simp [responseFrame, halfBytes, frameLen, h]
  have hslice : (s.rbuf.writeList 0 (responseFrame payload crc)).slice 0 (frameLen p) =
      some (responseFrame payload crc) := by
    rw [← hlen, Memory.slice_writeList]
  have hfits : 0 + frameLen p ≤ rspBufCap := by cases p <;> decide
  have hread : (s.withResponse p (responseFrame payload crc)).rbufRead 0
      (frameLen (s.withResponse p (responseFrame payload crc)).sel) = .ok (responseFrame payload crc) :=
    (bufRead_eq_ok _ _ _ _ _).2 ⟨hfits, hslice⟩
  have hpacket : (s.withResponse p (responseFrame payload crc)).responsePacket =
      some (.response p (responseFrame payload crc)) := by
    rw [State.responsePacket, hread]
    rfl
  have hseq : (s.withResponse p (responseFrame payload crc)).seq = .vCrc := rfl
  rw [State.packetAt, hseq, hpacket]
  rfl

/-- The signature in the bus's next answer, at `W_VERIFY` (R54). -/
theorem packetAt_signature (s : State) : ∃ t, (s.place .wakeSignature).packetAt = some (encode .wakeSignature, t) := by
  have hread : (s.place .wakeSignature).bus.readRes 4 = .ok wakeSignatureBytes :=
    readRes_of_ok _ 4 wakeSignatureBytes s.bus.answers rfl rfl
  exact ⟨_, by rw [State.packetAt, hread]; rfl⟩

/-- The port that a placed instruction is fetched from holds its encoding. -/
theorem packetAt_place (s : State) (i : Instr) (h : WellFormed i = true) :
    ∃ t, (s.place i).packetAt = some (encode i, t) := by
  cases i with
  | read4 zone za => exact ⟨_, packetAt_bBuild _ _ rfl (builtFrame_withZoneAddress s zone za 4 h)⟩
  | read32 zone za => exact ⟨_, packetAt_bBuild _ _ rfl (builtFrame_withZoneAddress s zone za 32 h)⟩
  | genKey slot => exact ⟨_, packetAt_bBuild _ _ rfl rfl⟩
  | nonce data => exact ⟨_, packetAt_bBuild _ _ rfl rfl⟩
  | sign slot => exact ⟨_, packetAt_bBuild _ _ rfl rfl⟩
  | wakeSignature => exact packetAt_signature s
  | respRead4 payload crc => exact ⟨_, packetAt_withResponse s .read4 payload crc (by simpa [WellFormed] using h)⟩
  | respRead32 payload crc => exact ⟨_, packetAt_withResponse s .read32 payload crc (by simpa [WellFormed] using h)⟩
  | respGenKey payload crc => exact ⟨_, packetAt_withResponse s .genKey payload crc (by simpa [WellFormed] using h)⟩
  | respSign payload crc => exact ⟨_, packetAt_withResponse s .sign payload crc (by simpa [WellFormed] using h)⟩
  | respNonce status crc => exact ⟨_, packetAt_withResponse s .nonce [status] crc rfl⟩
  | _ => exact ⟨_, rfl⟩

/-- Settles O23: the port holds the encoding, and the decoder reads it back (O1). -/
theorem placedInstructionIsRunNext : Obligations.PlacedInstructionIsRunNext := by
  intro s i h
  obtain ⟨t, ht⟩ := packetAt_place s i h
  have hfetch := fetch_of_packetAt (s.place i) t (encode i) i ht (decodeReadsBackEncode i h)
  exact ⟨t, hfetch, step_of_fetch _ i t hfetch⟩

end Sys2Proof.Proofs.Placing
